-- ==== Sys2Proof/Word.lean ====
section
/-! DEFINITION. The two word types of the machine (R5): 8-bit bytes and 16-bit addresses and pairs. -/

namespace Sys2Proof

/-- `u8`: a byte; its arithmetic wraps modulo 256 (R16, R21, R149). -/
abbrev Byte := BitVec 8

/-- `u16`: an address, PC, SP or a register pair; its arithmetic wraps modulo 65536 (R16, R24, R25). -/
abbrev Word := BitVec 16

end Sys2Proof
end

