-- ==== Sys2Proof/Syntax.lean ====
section
/-! DEFINITION. The instruction set as syntax: the operand names of R94 and R95, and `Instr`, one constructor per
row of spec/opcode_table.json, the rows with an immediate first
(Lean's compiler gives a constructor with a field a small number), then the others in the table's order (R96 to R98). `Imm` stands for n, `Imm16` for nn, `Rel` for e,
`AtHl` for (HL). An 8-bit immediate is kept as its raw byte, a 16-bit one as the word the two bytes make. -/

namespace Sys2Proof

/-- The registers an 8-bit register field reaches (R23, R94). -/
inductive Reg8 where
  | b | c | d | e | h | l | a
deriving DecidableEq, Repr

/-- The `rp` coding (R95). -/
inductive Pair where
  | bc | de | hl | sp
deriving DecidableEq, Repr

/-- The `rp2` coding of PUSH and POP (R95). -/
inductive StackPair where
  | bc | de | hl | af
deriving DecidableEq, Repr

/-- The four conditions (R95, R277). -/
inductive Cond where
  | nz | z | nc | c
deriving DecidableEq, Repr

/-- The `alu` coding (R95). -/
inductive AluOp where
  | add | adc | sub | sbc | and | xor | or | cp
deriving DecidableEq, Repr

/-- The `rot` coding (R95). -/
inductive RotKind where
  | rlc | rrc | rl | rr | sla | sra | swap | srl
deriving DecidableEq, Repr

/-- The instructions: one constructor per row of the opcode table. -/
inductive Instr where
  | ldBcImm16 (nn : Word) | ldBImm (n : Byte) | ldAtImm16Sp (nn : Word) | ldCImm (n : Byte) | stop (n : Byte)
  | ldDeImm16 (nn : Word) | ldDImm (n : Byte) | jrRel (n : Byte) | ldEImm (n : Byte) | jrNzRel (n : Byte)
  | ldHlImm16 (nn : Word) | ldHImm (n : Byte) | jrZRel (n : Byte) | ldLImm (n : Byte) | jrNcRel (n : Byte)
  | ldSpImm16 (nn : Word) | ldAtHlImm (n : Byte) | jrCRel (n : Byte) | ldAImm (n : Byte) | jpNzImm16 (nn : Word)
  | jpImm16 (nn : Word) | callNzImm16 (nn : Word) | addAImm (n : Byte) | jpZImm16 (nn : Word)
  | callZImm16 (nn : Word) | callImm16 (nn : Word) | adcAImm (n : Byte) | jpNcImm16 (nn : Word)
  | callNcImm16 (nn : Word) | subAImm (n : Byte) | jpCImm16 (nn : Word) | callCImm16 (nn : Word)
  | sbcAImm (n : Byte) | ldhAtImmA (n : Byte) | andAImm (n : Byte) | addSpRel (n : Byte) | ldAtImm16A (nn : Word)
  | xorAImm (n : Byte) | ldhAAtImm (n : Byte) | orAImm (n : Byte) | ldHlSpRel (n : Byte) | ldAAtImm16 (nn : Word)
  | cpAImm (n : Byte)
  -- no immediate: the base table
  | nop | ldAtBcA | incBc | incB | decB | rlca | addHlBc | ldAAtBc | decBc | incC | decC | rrca
  | ldAtDeA | incDe | incD | decD | rla | addHlDe | ldAAtDe | decDe | incE | decE | rra | ldAtHlIncA
  | incHl | incH | decH | daa | addHlHl | ldAAtHlInc | decHl | incL | decL | cpl | ldAtHlDecA
  | incSp | incAtHl | decAtHl | scf | addHlSp | ldAAtHlDec | decSp | incA | decA | ccf | ldBB
  | ldBC | ldBD | ldBE | ldBH | ldBL | ldBAtHl | ldBA | ldCB | ldCC | ldCD | ldCE | ldCH | ldCL
  | ldCAtHl | ldCA | ldDB | ldDC | ldDD | ldDE | ldDH | ldDL | ldDAtHl | ldDA | ldEB | ldEC | ldED
  | ldEE | ldEH | ldEL | ldEAtHl | ldEA | ldHB | ldHC | ldHD | ldHE | ldHH | ldHL | ldHAtHl | ldHA
  | ldLB | ldLC | ldLD | ldLE | ldLH | ldLL | ldLAtHl | ldLA | ldAtHlB | ldAtHlC | ldAtHlD | ldAtHlE
  | ldAtHlH | ldAtHlL | halt | ldAtHlA | ldAB | ldAC | ldAD | ldAE | ldAH | ldAL | ldAAtHl | ldAA
  | addAB | addAC | addAD | addAE | addAH | addAL | addAAtHl | addAA | adcAB | adcAC | adcAD
  | adcAE | adcAH | adcAL | adcAAtHl | adcAA | subAB | subAC | subAD | subAE | subAH | subAL
  | subAAtHl | subAA | sbcAB | sbcAC | sbcAD | sbcAE | sbcAH | sbcAL | sbcAAtHl | sbcAA | andAB
  | andAC | andAD | andAE | andAH | andAL | andAAtHl | andAA | xorAB | xorAC | xorAD | xorAE
  | xorAH | xorAL | xorAAtHl | xorAA | orAB | orAC | orAD | orAE | orAH | orAL | orAAtHl | orAA
  | cpAB | cpAC | cpAD | cpAE | cpAH | cpAL | cpAAtHl | cpAA | retNz | popBc | pushBc | rst00
  | retZ | ret | rst08 | retNc | popDe | undefinedD3 | pushDe | rst10 | retC | reti | undefinedDB
  | undefinedDD | rst18 | popHl | ldAtCA | undefinedE3 | undefinedE4 | pushHl | rst20 | jpHl
  | undefinedEB | undefinedEC | undefinedED | rst28 | popAf | ldAAtC | di | undefinedF4 | pushAf
  | rst30 | ldSpHl | ei | undefinedFC | undefinedFD | rst38
  -- the CB-extended table
  | rlcB | rlcC | rlcD | rlcE | rlcH | rlcL | rlcAtHl | rlcA | rrcB | rrcC | rrcD | rrcE | rrcH
  | rrcL | rrcAtHl | rrcA | rlB | rlC | rlD | rlE | rlH | rlL | rlAtHl | rlA | rrB | rrC | rrD
  | rrE | rrH | rrL | rrAtHl | rrA | slaB | slaC | slaD | slaE | slaH | slaL | slaAtHl | slaA
  | sraB | sraC | sraD | sraE | sraH | sraL | sraAtHl | sraA | swapB | swapC | swapD | swapE
  | swapH | swapL | swapAtHl | swapA | srlB | srlC | srlD | srlE | srlH | srlL | srlAtHl | srlA
  | bit0B | bit0C | bit0D | bit0E | bit0H | bit0L | bit0AtHl | bit0A | bit1B | bit1C | bit1D
  | bit1E | bit1H | bit1L | bit1AtHl | bit1A | bit2B | bit2C | bit2D | bit2E | bit2H | bit2L
  | bit2AtHl | bit2A | bit3B | bit3C | bit3D | bit3E | bit3H | bit3L | bit3AtHl | bit3A | bit4B
  | bit4C | bit4D | bit4E | bit4H | bit4L | bit4AtHl | bit4A | bit5B | bit5C | bit5D | bit5E
  | bit5H | bit5L | bit5AtHl | bit5A | bit6B | bit6C | bit6D | bit6E | bit6H | bit6L | bit6AtHl
  | bit6A | bit7B | bit7C | bit7D | bit7E | bit7H | bit7L | bit7AtHl | bit7A | res0B | res0C
  | res0D | res0E | res0H | res0L | res0AtHl | res0A | res1B | res1C | res1D | res1E | res1H
  | res1L | res1AtHl | res1A | res2B | res2C | res2D | res2E | res2H | res2L | res2AtHl | res2A
  | res3B | res3C | res3D | res3E | res3H | res3L | res3AtHl | res3A | res4B | res4C | res4D
  | res4E | res4H | res4L | res4AtHl | res4A | res5B | res5C | res5D | res5E | res5H | res5L
  | res5AtHl | res5A | res6B | res6C | res6D | res6E | res6H | res6L | res6AtHl | res6A | res7B
  | res7C | res7D | res7E | res7H | res7L | res7AtHl | res7A | set0B | set0C | set0D | set0E
  | set0H | set0L | set0AtHl | set0A | set1B | set1C | set1D | set1E | set1H | set1L | set1AtHl
  | set1A | set2B | set2C | set2D | set2E | set2H | set2L | set2AtHl | set2A | set3B | set3C
  | set3D | set3E | set3H | set3L | set3AtHl | set3A | set4B | set4C | set4D | set4E | set4H
  | set4L | set4AtHl | set4A | set5B | set5C | set5D | set5E | set5H | set5L | set5AtHl | set5A
  | set6B | set6C | set6D | set6E | set6H | set6L | set6AtHl | set6A | set7B | set7C | set7D
  | set7E | set7H | set7L | set7AtHl | set7A
deriving DecidableEq, Repr

end Sys2Proof
end

