-- ==== Sys2Proof/Config.lean ====
section
/-! DEFINITION. What an implementation fixes: the types of the spec's parameters R6 to R12 and R14, the structure `Settings`
that holds one value of each, and the one value the spec leaves OPEN (R12). The model's own settings stand in
Machine/Settings.lean. -/

namespace Sys2Proof

/-- `IMPL_BASE` and `IMPL_CB` (R6): the bytes for which the base table and the CB-extended table hold an entry. -/
structure ImplSets where
  base : Byte → Bool
  cb : Byte → Bool

/-- The four flag predicates (R8, R140): total functions of the operands alone. The subtrahend of a borrow is an unreduced
integer, 0 to 256. -/
structure FlagPredicates where
  halfAdd : Byte → Byte → Bool → Bool
  carryAdd : Byte → Byte → Bool → Bool
  borrowHalf : Byte → Nat → Bool
  borrowFull : Byte → Nat → Bool

/-- `BITNUM` (R7): how the bit index of BIT, RES and SET counts. -/
inductive BitNum where
  | msb0 | lsb0
deriving DecidableEq, Repr

/-- `ACC_ROT_Z` (R9): what RLCA, RRCA, RLA and RRA write to the Z flag. -/
inductive AccRotZ where
  | clear | result
deriving DecidableEq, Repr

/-- `ROM_WRITE` (R10): what a bus write to 0x0000 to 0x7FFF does. -/
inductive RomWrite where
  | drop | fault
deriving DecidableEq, Repr

/-- The six GPU registers that an address of the window can reach (R11, R340). -/
inductive GpuReg where
  | lcdc | stat | scy | scx | ly | bgp
deriving DecidableEq, Repr

/-- A map `GPU_REGS` (R11, R340): which register an address of the window reaches. What a register returns and takes is the
register's own and no part of the map. -/
abbrev GpuRegs := Nat → Option GpuReg

/-- A row of `CYCLES` (R14): the base cost, which is the cost when taken, and the not-taken cost where the row has one
(R126). -/
structure Cost where
  cycles : Nat
  notTaken : Option Nat := none
deriving DecidableEq, Repr

/-- One value of every parameter of the model (R6 to R12, R14). -/
structure Settings where
  implSets : ImplSets
  flagPredicates : FlagPredicates
  bitNum : BitNum
  accRotZ : AccRotZ
  romWrite : RomWrite
  gpuRegs : GpuRegs
  serialCtrlRead : Byte
  cost : Instr → Cost

/-- `SERIAL_CTRL_READ` (R12, R68): the byte a read of 0xFF02 returns, the same at every read. The spec leaves it
OPEN, so it has no body here and nothing can be proved of its value (log entry 5). -/
opaque Config.serialCtrlRead : Byte

end Sys2Proof
end

