-- ==== Sys2Proof/Machine/Cycles.lean ====
section
/-! DEFINITION. `CYCLES` (R14, R421): the cost of every instruction at the spec's default, from the columns `cycles` and
`cycles_not_taken` of the opcode table (log entry 4). -/

namespace Sys2Proof.Machine

open Sys2Proof

/-- The row's cost. An unassigned byte has none: its step raises before any cost is charged (R325), and 0 stands here. -/
def cost (i : Instr) : Cost :=
  match i with
  | .ldBcImm16 _ => ⟨12, none⟩
  | .ldBImm _ => ⟨8, none⟩
  | .ldAtImm16Sp _ => ⟨20, none⟩
  | .ldCImm _ => ⟨8, none⟩
  | .stop _ => ⟨4, none⟩
  | .ldDeImm16 _ => ⟨12, none⟩
  | .ldDImm _ => ⟨8, none⟩
  | .jrRel _ => ⟨12, none⟩
  | .ldEImm _ => ⟨8, none⟩
  | .jrNzRel _ => ⟨12, some 8⟩
  | .ldHlImm16 _ => ⟨12, none⟩
  | .ldHImm _ => ⟨8, none⟩
  | .jrZRel _ => ⟨12, some 8⟩
  | .ldLImm _ => ⟨8, none⟩
  | .jrNcRel _ => ⟨12, some 8⟩
  | .ldSpImm16 _ => ⟨12, none⟩
  | .ldAtHlImm _ => ⟨12, none⟩
  | .jrCRel _ => ⟨12, some 8⟩
  | .ldAImm _ => ⟨8, none⟩
  | .jpNzImm16 _ => ⟨16, some 12⟩
  | .jpImm16 _ => ⟨16, none⟩
  | .callNzImm16 _ => ⟨24, some 12⟩
  | .addAImm _ => ⟨8, none⟩
  | .jpZImm16 _ => ⟨16, some 12⟩
  | .callZImm16 _ => ⟨24, some 12⟩
  | .callImm16 _ => ⟨24, none⟩
  | .adcAImm _ => ⟨8, none⟩
  | .jpNcImm16 _ => ⟨16, some 12⟩
  | .callNcImm16 _ => ⟨24, some 12⟩
  | .subAImm _ => ⟨8, none⟩
  | .jpCImm16 _ => ⟨16, some 12⟩
  | .callCImm16 _ => ⟨24, some 12⟩
  | .sbcAImm _ => ⟨8, none⟩
  | .ldhAtImmA _ => ⟨12, none⟩
  | .andAImm _ => ⟨8, none⟩
  | .addSpRel _ => ⟨16, none⟩
  | .ldAtImm16A _ => ⟨16, none⟩
  | .xorAImm _ => ⟨8, none⟩
  | .ldhAAtImm _ => ⟨12, none⟩
  | .orAImm _ => ⟨8, none⟩
  | .ldHlSpRel _ => ⟨12, none⟩
  | .ldAAtImm16 _ => ⟨16, none⟩
  | .cpAImm _ => ⟨8, none⟩
  | .nop => ⟨4, none⟩
  | .ldAtBcA => ⟨8, none⟩
  | .incBc => ⟨8, none⟩
  | .incB => ⟨4, none⟩
  | .decB => ⟨4, none⟩
  | .rlca => ⟨4, none⟩
  | .addHlBc => ⟨8, none⟩
  | .ldAAtBc => ⟨8, none⟩
  | .decBc => ⟨8, none⟩
  | .incC => ⟨4, none⟩
  | .decC => ⟨4, none⟩
  | .rrca => ⟨4, none⟩
  | .ldAtDeA => ⟨8, none⟩
  | .incDe => ⟨8, none⟩
  | .incD => ⟨4, none⟩
  | .decD => ⟨4, none⟩
  | .rla => ⟨4, none⟩
  | .addHlDe => ⟨8, none⟩
  | .ldAAtDe => ⟨8, none⟩
  | .decDe => ⟨8, none⟩
  | .incE => ⟨4, none⟩
  | .decE => ⟨4, none⟩
  | .rra => ⟨4, none⟩
  | .ldAtHlIncA => ⟨8, none⟩
  | .incHl => ⟨8, none⟩
  | .incH => ⟨4, none⟩
  | .decH => ⟨4, none⟩
  | .daa => ⟨4, none⟩
  | .addHlHl => ⟨8, none⟩
  | .ldAAtHlInc => ⟨8, none⟩
  | .decHl => ⟨8, none⟩
  | .incL => ⟨4, none⟩
  | .decL => ⟨4, none⟩
  | .cpl => ⟨4, none⟩
  | .ldAtHlDecA => ⟨8, none⟩
  | .incSp => ⟨8, none⟩
  | .incAtHl => ⟨12, none⟩
  | .decAtHl => ⟨12, none⟩
  | .scf => ⟨4, none⟩
  | .addHlSp => ⟨8, none⟩
  | .ldAAtHlDec => ⟨8, none⟩
  | .decSp => ⟨8, none⟩
  | .incA => ⟨4, none⟩
  | .decA => ⟨4, none⟩
  | .ccf => ⟨4, none⟩
  | .ldBB => ⟨4, none⟩
  | .ldBC => ⟨4, none⟩
  | .ldBD => ⟨4, none⟩
  | .ldBE => ⟨4, none⟩
  | .ldBH => ⟨4, none⟩
  | .ldBL => ⟨4, none⟩
  | .ldBAtHl => ⟨8, none⟩
  | .ldBA => ⟨4, none⟩
  | .ldCB => ⟨4, none⟩
  | .ldCC => ⟨4, none⟩
  | .ldCD => ⟨4, none⟩
  | .ldCE => ⟨4, none⟩
  | .ldCH => ⟨4, none⟩
  | .ldCL => ⟨4, none⟩
  | .ldCAtHl => ⟨8, none⟩
  | .ldCA => ⟨4, none⟩
  | .ldDB => ⟨4, none⟩
  | .ldDC => ⟨4, none⟩
  | .ldDD => ⟨4, none⟩
  | .ldDE => ⟨4, none⟩
  | .ldDH => ⟨4, none⟩
  | .ldDL => ⟨4, none⟩
  | .ldDAtHl => ⟨8, none⟩
  | .ldDA => ⟨4, none⟩
  | .ldEB => ⟨4, none⟩
  | .ldEC => ⟨4, none⟩
  | .ldED => ⟨4, none⟩
  | .ldEE => ⟨4, none⟩
  | .ldEH => ⟨4, none⟩
  | .ldEL => ⟨4, none⟩
  | .ldEAtHl => ⟨8, none⟩
  | .ldEA => ⟨4, none⟩
  | .ldHB => ⟨4, none⟩
  | .ldHC => ⟨4, none⟩
  | .ldHD => ⟨4, none⟩
  | .ldHE => ⟨4, none⟩
  | .ldHH => ⟨4, none⟩
  | .ldHL => ⟨4, none⟩
  | .ldHAtHl => ⟨8, none⟩
  | .ldHA => ⟨4, none⟩
  | .ldLB => ⟨4, none⟩
  | .ldLC => ⟨4, none⟩
  | .ldLD => ⟨4, none⟩
  | .ldLE => ⟨4, none⟩
  | .ldLH => ⟨4, none⟩
  | .ldLL => ⟨4, none⟩
  | .ldLAtHl => ⟨8, none⟩
  | .ldLA => ⟨4, none⟩
  | .ldAtHlB => ⟨8, none⟩
  | .ldAtHlC => ⟨8, none⟩
  | .ldAtHlD => ⟨8, none⟩
  | .ldAtHlE => ⟨8, none⟩
  | .ldAtHlH => ⟨8, none⟩
  | .ldAtHlL => ⟨8, none⟩
  | .halt => ⟨4, none⟩
  | .ldAtHlA => ⟨8, none⟩
  | .ldAB => ⟨4, none⟩
  | .ldAC => ⟨4, none⟩
  | .ldAD => ⟨4, none⟩
  | .ldAE => ⟨4, none⟩
  | .ldAH => ⟨4, none⟩
  | .ldAL => ⟨4, none⟩
  | .ldAAtHl => ⟨8, none⟩
  | .ldAA => ⟨4, none⟩
  | .addAB => ⟨4, none⟩
  | .addAC => ⟨4, none⟩
  | .addAD => ⟨4, none⟩
  | .addAE => ⟨4, none⟩
  | .addAH => ⟨4, none⟩
  | .addAL => ⟨4, none⟩
  | .addAAtHl => ⟨8, none⟩
  | .addAA => ⟨4, none⟩
  | .adcAB => ⟨4, none⟩
  | .adcAC => ⟨4, none⟩
  | .adcAD => ⟨4, none⟩
  | .adcAE => ⟨4, none⟩
  | .adcAH => ⟨4, none⟩
  | .adcAL => ⟨4, none⟩
  | .adcAAtHl => ⟨8, none⟩
  | .adcAA => ⟨4, none⟩
  | .subAB => ⟨4, none⟩
  | .subAC => ⟨4, none⟩
  | .subAD => ⟨4, none⟩
  | .subAE => ⟨4, none⟩
  | .subAH => ⟨4, none⟩
  | .subAL => ⟨4, none⟩
  | .subAAtHl => ⟨8, none⟩
  | .subAA => ⟨4, none⟩
  | .sbcAB => ⟨4, none⟩
  | .sbcAC => ⟨4, none⟩
  | .sbcAD => ⟨4, none⟩
  | .sbcAE => ⟨4, none⟩
  | .sbcAH => ⟨4, none⟩
  | .sbcAL => ⟨4, none⟩
  | .sbcAAtHl => ⟨8, none⟩
  | .sbcAA => ⟨4, none⟩
  | .andAB => ⟨4, none⟩
  | .andAC => ⟨4, none⟩
  | .andAD => ⟨4, none⟩
  | .andAE => ⟨4, none⟩
  | .andAH => ⟨4, none⟩
  | .andAL => ⟨4, none⟩
  | .andAAtHl => ⟨8, none⟩
  | .andAA => ⟨4, none⟩
  | .xorAB => ⟨4, none⟩
  | .xorAC => ⟨4, none⟩
  | .xorAD => ⟨4, none⟩
  | .xorAE => ⟨4, none⟩
  | .xorAH => ⟨4, none⟩
  | .xorAL => ⟨4, none⟩
  | .xorAAtHl => ⟨8, none⟩
  | .xorAA => ⟨4, none⟩
  | .orAB => ⟨4, none⟩
  | .orAC => ⟨4, none⟩
  | .orAD => ⟨4, none⟩
  | .orAE => ⟨4, none⟩
  | .orAH => ⟨4, none⟩
  | .orAL => ⟨4, none⟩
  | .orAAtHl => ⟨8, none⟩
  | .orAA => ⟨4, none⟩
  | .cpAB => ⟨4, none⟩
  | .cpAC => ⟨4, none⟩
  | .cpAD => ⟨4, none⟩
  | .cpAE => ⟨4, none⟩
  | .cpAH => ⟨4, none⟩
  | .cpAL => ⟨4, none⟩
  | .cpAAtHl => ⟨8, none⟩
  | .cpAA => ⟨4, none⟩
  | .retNz => ⟨20, some 8⟩
  | .popBc => ⟨12, none⟩
  | .pushBc => ⟨16, none⟩
  | .rst00 => ⟨16, none⟩
  | .retZ => ⟨20, some 8⟩
  | .ret => ⟨16, none⟩
  | .rst08 => ⟨16, none⟩
  | .retNc => ⟨20, some 8⟩
  | .popDe => ⟨12, none⟩
  | .undefinedD3 => ⟨0, none⟩
  | .pushDe => ⟨16, none⟩
  | .rst10 => ⟨16, none⟩
  | .retC => ⟨20, some 8⟩
  | .reti => ⟨16, none⟩
  | .undefinedDB => ⟨0, none⟩
  | .undefinedDD => ⟨0, none⟩
  | .rst18 => ⟨16, none⟩
  | .popHl => ⟨12, none⟩
  | .ldAtCA => ⟨8, none⟩
  | .undefinedE3 => ⟨0, none⟩
  | .undefinedE4 => ⟨0, none⟩
  | .pushHl => ⟨16, none⟩
  | .rst20 => ⟨16, none⟩
  | .jpHl => ⟨4, none⟩
  | .undefinedEB => ⟨0, none⟩
  | .undefinedEC => ⟨0, none⟩
  | .undefinedED => ⟨0, none⟩
  | .rst28 => ⟨16, none⟩
  | .popAf => ⟨12, none⟩
  | .ldAAtC => ⟨8, none⟩
  | .di => ⟨4, none⟩
  | .undefinedF4 => ⟨0, none⟩
  | .pushAf => ⟨16, none⟩
  | .rst30 => ⟨16, none⟩
  | .ldSpHl => ⟨8, none⟩
  | .ei => ⟨4, none⟩
  | .undefinedFC => ⟨0, none⟩
  | .undefinedFD => ⟨0, none⟩
  | .rst38 => ⟨16, none⟩
  | .rlcB => ⟨8, none⟩
  | .rlcC => ⟨8, none⟩
  | .rlcD => ⟨8, none⟩
  | .rlcE => ⟨8, none⟩
  | .rlcH => ⟨8, none⟩
  | .rlcL => ⟨8, none⟩
  | .rlcAtHl => ⟨16, none⟩
  | .rlcA => ⟨8, none⟩
  | .rrcB => ⟨8, none⟩
  | .rrcC => ⟨8, none⟩
  | .rrcD => ⟨8, none⟩
  | .rrcE => ⟨8, none⟩
  | .rrcH => ⟨8, none⟩
  | .rrcL => ⟨8, none⟩
  | .rrcAtHl => ⟨16, none⟩
  | .rrcA => ⟨8, none⟩
  | .rlB => ⟨8, none⟩
  | .rlC => ⟨8, none⟩
  | .rlD => ⟨8, none⟩
  | .rlE => ⟨8, none⟩
  | .rlH => ⟨8, none⟩
  | .rlL => ⟨8, none⟩
  | .rlAtHl => ⟨16, none⟩
  | .rlA => ⟨8, none⟩
  | .rrB => ⟨8, none⟩
  | .rrC => ⟨8, none⟩
  | .rrD => ⟨8, none⟩
  | .rrE => ⟨8, none⟩
  | .rrH => ⟨8, none⟩
  | .rrL => ⟨8, none⟩
  | .rrAtHl => ⟨16, none⟩
  | .rrA => ⟨8, none⟩
  | .slaB => ⟨8, none⟩
  | .slaC => ⟨8, none⟩
  | .slaD => ⟨8, none⟩
  | .slaE => ⟨8, none⟩
  | .slaH => ⟨8, none⟩
  | .slaL => ⟨8, none⟩
  | .slaAtHl => ⟨16, none⟩
  | .slaA => ⟨8, none⟩
  | .sraB => ⟨8, none⟩
  | .sraC => ⟨8, none⟩
  | .sraD => ⟨8, none⟩
  | .sraE => ⟨8, none⟩
  | .sraH => ⟨8, none⟩
  | .sraL => ⟨8, none⟩
  | .sraAtHl => ⟨16, none⟩
  | .sraA => ⟨8, none⟩
  | .swapB => ⟨8, none⟩
  | .swapC => ⟨8, none⟩
  | .swapD => ⟨8, none⟩
  | .swapE => ⟨8, none⟩
  | .swapH => ⟨8, none⟩
  | .swapL => ⟨8, none⟩
  | .swapAtHl => ⟨16, none⟩
  | .swapA => ⟨8, none⟩
  | .srlB => ⟨8, none⟩
  | .srlC => ⟨8, none⟩
  | .srlD => ⟨8, none⟩
  | .srlE => ⟨8, none⟩
  | .srlH => ⟨8, none⟩
  | .srlL => ⟨8, none⟩
  | .srlAtHl => ⟨16, none⟩
  | .srlA => ⟨8, none⟩
  | .bit0B => ⟨8, none⟩
  | .bit0C => ⟨8, none⟩
  | .bit0D => ⟨8, none⟩
  | .bit0E => ⟨8, none⟩
  | .bit0H => ⟨8, none⟩
  | .bit0L => ⟨8, none⟩
  | .bit0AtHl => ⟨12, none⟩
  | .bit0A => ⟨8, none⟩
  | .bit1B => ⟨8, none⟩
  | .bit1C => ⟨8, none⟩
  | .bit1D => ⟨8, none⟩
  | .bit1E => ⟨8, none⟩
  | .bit1H => ⟨8, none⟩
  | .bit1L => ⟨8, none⟩
  | .bit1AtHl => ⟨12, none⟩
  | .bit1A => ⟨8, none⟩
  | .bit2B => ⟨8, none⟩
  | .bit2C => ⟨8, none⟩
  | .bit2D => ⟨8, none⟩
  | .bit2E => ⟨8, none⟩
  | .bit2H => ⟨8, none⟩
  | .bit2L => ⟨8, none⟩
  | .bit2AtHl => ⟨12, none⟩
  | .bit2A => ⟨8, none⟩
  | .bit3B => ⟨8, none⟩
  | .bit3C => ⟨8, none⟩
  | .bit3D => ⟨8, none⟩
  | .bit3E => ⟨8, none⟩
  | .bit3H => ⟨8, none⟩
  | .bit3L => ⟨8, none⟩
  | .bit3AtHl => ⟨12, none⟩
  | .bit3A => ⟨8, none⟩
  | .bit4B => ⟨8, none⟩
  | .bit4C => ⟨8, none⟩
  | .bit4D => ⟨8, none⟩
  | .bit4E => ⟨8, none⟩
  | .bit4H => ⟨8, none⟩
  | .bit4L => ⟨8, none⟩
  | .bit4AtHl => ⟨12, none⟩
  | .bit4A => ⟨8, none⟩
  | .bit5B => ⟨8, none⟩
  | .bit5C => ⟨8, none⟩
  | .bit5D => ⟨8, none⟩
  | .bit5E => ⟨8, none⟩
  | .bit5H => ⟨8, none⟩
  | .bit5L => ⟨8, none⟩
  | .bit5AtHl => ⟨12, none⟩
  | .bit5A => ⟨8, none⟩
  | .bit6B => ⟨8, none⟩
  | .bit6C => ⟨8, none⟩
  | .bit6D => ⟨8, none⟩
  | .bit6E => ⟨8, none⟩
  | .bit6H => ⟨8, none⟩
  | .bit6L => ⟨8, none⟩
  | .bit6AtHl => ⟨12, none⟩
  | .bit6A => ⟨8, none⟩
  | .bit7B => ⟨8, none⟩
  | .bit7C => ⟨8, none⟩
  | .bit7D => ⟨8, none⟩
  | .bit7E => ⟨8, none⟩
  | .bit7H => ⟨8, none⟩
  | .bit7L => ⟨8, none⟩
  | .bit7AtHl => ⟨12, none⟩
  | .bit7A => ⟨8, none⟩
  | .res0B => ⟨8, none⟩
  | .res0C => ⟨8, none⟩
  | .res0D => ⟨8, none⟩
  | .res0E => ⟨8, none⟩
  | .res0H => ⟨8, none⟩
  | .res0L => ⟨8, none⟩
  | .res0AtHl => ⟨16, none⟩
  | .res0A => ⟨8, none⟩
  | .res1B => ⟨8, none⟩
  | .res1C => ⟨8, none⟩
  | .res1D => ⟨8, none⟩
  | .res1E => ⟨8, none⟩
  | .res1H => ⟨8, none⟩
  | .res1L => ⟨8, none⟩
  | .res1AtHl => ⟨16, none⟩
  | .res1A => ⟨8, none⟩
  | .res2B => ⟨8, none⟩
  | .res2C => ⟨8, none⟩
  | .res2D => ⟨8, none⟩
  | .res2E => ⟨8, none⟩
  | .res2H => ⟨8, none⟩
  | .res2L => ⟨8, none⟩
  | .res2AtHl => ⟨16, none⟩
  | .res2A => ⟨8, none⟩
  | .res3B => ⟨8, none⟩
  | .res3C => ⟨8, none⟩
  | .res3D => ⟨8, none⟩
  | .res3E => ⟨8, none⟩
  | .res3H => ⟨8, none⟩
  | .res3L => ⟨8, none⟩
  | .res3AtHl => ⟨16, none⟩
  | .res3A => ⟨8, none⟩
  | .res4B => ⟨8, none⟩
  | .res4C => ⟨8, none⟩
  | .res4D => ⟨8, none⟩
  | .res4E => ⟨8, none⟩
  | .res4H => ⟨8, none⟩
  | .res4L => ⟨8, none⟩
  | .res4AtHl => ⟨16, none⟩
  | .res4A => ⟨8, none⟩
  | .res5B => ⟨8, none⟩
  | .res5C => ⟨8, none⟩
  | .res5D => ⟨8, none⟩
  | .res5E => ⟨8, none⟩
  | .res5H => ⟨8, none⟩
  | .res5L => ⟨8, none⟩
  | .res5AtHl => ⟨16, none⟩
  | .res5A => ⟨8, none⟩
  | .res6B => ⟨8, none⟩
  | .res6C => ⟨8, none⟩
  | .res6D => ⟨8, none⟩
  | .res6E => ⟨8, none⟩
  | .res6H => ⟨8, none⟩
  | .res6L => ⟨8, none⟩
  | .res6AtHl => ⟨16, none⟩
  | .res6A => ⟨8, none⟩
  | .res7B => ⟨8, none⟩
  | .res7C => ⟨8, none⟩
  | .res7D => ⟨8, none⟩
  | .res7E => ⟨8, none⟩
  | .res7H => ⟨8, none⟩
  | .res7L => ⟨8, none⟩
  | .res7AtHl => ⟨16, none⟩
  | .res7A => ⟨8, none⟩
  | .set0B => ⟨8, none⟩
  | .set0C => ⟨8, none⟩
  | .set0D => ⟨8, none⟩
  | .set0E => ⟨8, none⟩
  | .set0H => ⟨8, none⟩
  | .set0L => ⟨8, none⟩
  | .set0AtHl => ⟨16, none⟩
  | .set0A => ⟨8, none⟩
  | .set1B => ⟨8, none⟩
  | .set1C => ⟨8, none⟩
  | .set1D => ⟨8, none⟩
  | .set1E => ⟨8, none⟩
  | .set1H => ⟨8, none⟩
  | .set1L => ⟨8, none⟩
  | .set1AtHl => ⟨16, none⟩
  | .set1A => ⟨8, none⟩
  | .set2B => ⟨8, none⟩
  | .set2C => ⟨8, none⟩
  | .set2D => ⟨8, none⟩
  | .set2E => ⟨8, none⟩
  | .set2H => ⟨8, none⟩
  | .set2L => ⟨8, none⟩
  | .set2AtHl => ⟨16, none⟩
  | .set2A => ⟨8, none⟩
  | .set3B => ⟨8, none⟩
  | .set3C => ⟨8, none⟩
  | .set3D => ⟨8, none⟩
  | .set3E => ⟨8, none⟩
  | .set3H => ⟨8, none⟩
  | .set3L => ⟨8, none⟩
  | .set3AtHl => ⟨16, none⟩
  | .set3A => ⟨8, none⟩
  | .set4B => ⟨8, none⟩
  | .set4C => ⟨8, none⟩
  | .set4D => ⟨8, none⟩
  | .set4E => ⟨8, none⟩
  | .set4H => ⟨8, none⟩
  | .set4L => ⟨8, none⟩
  | .set4AtHl => ⟨16, none⟩
  | .set4A => ⟨8, none⟩
  | .set5B => ⟨8, none⟩
  | .set5C => ⟨8, none⟩
  | .set5D => ⟨8, none⟩
  | .set5E => ⟨8, none⟩
  | .set5H => ⟨8, none⟩
  | .set5L => ⟨8, none⟩
  | .set5AtHl => ⟨16, none⟩
  | .set5A => ⟨8, none⟩
  | .set6B => ⟨8, none⟩
  | .set6C => ⟨8, none⟩
  | .set6D => ⟨8, none⟩
  | .set6E => ⟨8, none⟩
  | .set6H => ⟨8, none⟩
  | .set6L => ⟨8, none⟩
  | .set6AtHl => ⟨16, none⟩
  | .set6A => ⟨8, none⟩
  | .set7B => ⟨8, none⟩
  | .set7C => ⟨8, none⟩
  | .set7D => ⟨8, none⟩
  | .set7E => ⟨8, none⟩
  | .set7H => ⟨8, none⟩
  | .set7L => ⟨8, none⟩
  | .set7AtHl => ⟨16, none⟩
  | .set7A => ⟨8, none⟩

end Sys2Proof.Machine
end

