-- ==== Sys2Proof/Decode.lean ====
section
/-! DEFINITION. From bytes to instructions and back: the byte-order helpers (R16), the fields of an opcode byte (R91), the
instructions of each operand field (R94, R95), the two opcode maps by their fields (R96, R97), the implemented sets
(R6, R100), the decoder, the host's view of a table row (R103), and the encoder, written row by row from the opcode table. -/

namespace Sys2Proof

/-! ### Byte order (R16, R93) -/

/-- `hi(w) = w[15:8]` (R16). -/
def hi (w : Word) : Byte := w.extractLsb' 8 8

/-- `lo(w) = w[7:0]` (R16). -/
def lo (w : Word) : Byte := w.extractLsb' 0 8

/-- `word(h, l) = h * 256 + l` (R16). -/
def word (h l : Byte) : Word := h ++ l

/-- `sext8(v)` as a 16-bit addend: the displacement `e` of a raw immediate byte (R16, R93, R149). -/
def sext8 (v : Byte) : Word := v.signExtend 16

/-! ### The fields of an opcode byte (R91) -/

/-- `x = op[7:6]`. -/
def fieldX (op : Byte) : BitVec 2 := op.extractLsb' 6 2

/-- `y = op[5:3]`. -/
def fieldY (op : Byte) : BitVec 3 := op.extractLsb' 3 3

/-- `z = op[2:0]`. -/
def fieldZ (op : Byte) : BitVec 3 := op.extractLsb' 0 3

/-- `p = op[5:4]`, the upper two bits of `y`. -/
def fieldP (y : BitVec 3) : BitVec 2 := y.extractLsb' 1 2

/-- `q = op[3]`, the lowest bit of `y`. -/
def fieldQ (y : BitVec 3) : Bool := y.getLsbD 0

/-- The entry a two-bit field selects, code 0 first. -/
def sel4 (n : BitVec 2) (x0 x1 x2 x3 : α) : α :=
  match n.toNat with
  | 0 => x0 | 1 => x1 | 2 => x2 | _ => x3

/-- The entry a three-bit field selects, code 0 first. -/
def sel8 (n : BitVec 3) (x0 x1 x2 x3 x4 x5 x6 x7 : α) : α :=
  match n.toNat with
  | 0 => x0 | 1 => x1 | 2 => x2 | 3 => x3 | 4 => x4 | 5 => x5 | 6 => x6 | _ => x7

/-- The entry a register selects, in the order of the `r` coding. -/
def selReg (r : Reg8) (b c d e h l a : α) : α :=
  match r with
  | .b => b | .c => c | .d => d | .e => e | .h => h | .l => l | .a => a

/-- The `r` coding (R94): code 6 is the memory byte at HL, the other seven are registers. -/
def operand (code : BitVec 3) (onReg : Reg8 → α) (atHl : α) : α :=
  sel8 code (onReg .b) (onReg .c) (onReg .d) (onReg .e) (onReg .h) (onReg .l) atHl (onReg .a)

/-! ### The instructions of each operand field (R95)

Each function lists the rows of one instruction of the spec over its operands. -/

/-- `LD r,r'` (R162). -/
def Instr.ldRegReg (dst r : Reg8) : Instr :=
  match dst with
  | .b => selReg r .ldBB .ldBC .ldBD .ldBE .ldBH .ldBL .ldBA
  | .c => selReg r .ldCB .ldCC .ldCD .ldCE .ldCH .ldCL .ldCA
  | .d => selReg r .ldDB .ldDC .ldDD .ldDE .ldDH .ldDL .ldDA
  | .e => selReg r .ldEB .ldEC .ldED .ldEE .ldEH .ldEL .ldEA
  | .h => selReg r .ldHB .ldHC .ldHD .ldHE .ldHH .ldHL .ldHA
  | .l => selReg r .ldLB .ldLC .ldLD .ldLE .ldLH .ldLL .ldLA
  | .a => selReg r .ldAB .ldAC .ldAD .ldAE .ldAH .ldAL .ldAA

/-- `LD r,n` (R163). -/
def Instr.ldRegImm (dst : Reg8) (n : Byte) : Instr :=
  selReg dst (.ldBImm n) (.ldCImm n) (.ldDImm n) (.ldEImm n) (.ldHImm n) (.ldLImm n) (.ldAImm n)

/-- `LD r,(HL)` (R164). -/
def Instr.ldRegAtHl (dst : Reg8) : Instr :=
  selReg dst .ldBAtHl .ldCAtHl .ldDAtHl .ldEAtHl .ldHAtHl .ldLAtHl .ldAAtHl

/-- `LD (HL),r` (R165). -/
def Instr.ldAtHlReg (r : Reg8) : Instr :=
  selReg r .ldAtHlB .ldAtHlC .ldAtHlD .ldAtHlE .ldAtHlH .ldAtHlL .ldAtHlA

/-- `LD rp,nn` (R190). -/
def Instr.ldPairImm16 (p : Pair) (nn : Word) : Instr :=
  match p with
  | .bc => .ldBcImm16 nn
  | .de => .ldDeImm16 nn
  | .hl => .ldHlImm16 nn
  | .sp => .ldSpImm16 nn

/-- `PUSH rp2` (R194). -/
def Instr.pushPair (p : StackPair) : Instr :=
  match p with
  | .bc => .pushBc
  | .de => .pushDe
  | .hl => .pushHl
  | .af => .pushAf

/-- `POP rp2` (R195, R196). -/
def Instr.popPair (p : StackPair) : Instr :=
  match p with
  | .bc => .popBc
  | .de => .popDe
  | .hl => .popHl
  | .af => .popAf

/-- The eight accumulator operations on a register (R210 to R231). -/
def Instr.aluReg (op : AluOp) (r : Reg8) : Instr :=
  match op with
  | .add => selReg r .addAB .addAC .addAD .addAE .addAH .addAL .addAA
  | .adc => selReg r .adcAB .adcAC .adcAD .adcAE .adcAH .adcAL .adcAA
  | .sub => selReg r .subAB .subAC .subAD .subAE .subAH .subAL .subAA
  | .sbc => selReg r .sbcAB .sbcAC .sbcAD .sbcAE .sbcAH .sbcAL .sbcAA
  | .and => selReg r .andAB .andAC .andAD .andAE .andAH .andAL .andAA
  | .xor => selReg r .xorAB .xorAC .xorAD .xorAE .xorAH .xorAL .xorAA
  | .or => selReg r .orAB .orAC .orAD .orAE .orAH .orAL .orAA
  | .cp => selReg r .cpAB .cpAC .cpAD .cpAE .cpAH .cpAL .cpAA

/-- The eight accumulator operations on the byte at HL. -/
def Instr.aluAtHl (op : AluOp) : Instr :=
  match op with
  | .add => .addAAtHl
  | .adc => .adcAAtHl
  | .sub => .subAAtHl
  | .sbc => .sbcAAtHl
  | .and => .andAAtHl
  | .xor => .xorAAtHl
  | .or => .orAAtHl
  | .cp => .cpAAtHl

/-- The eight accumulator operations on an immediate. -/
def Instr.aluImm (op : AluOp) (n : Byte) : Instr :=
  match op with
  | .add => .addAImm n
  | .adc => .adcAImm n
  | .sub => .subAImm n
  | .sbc => .sbcAImm n
  | .and => .andAImm n
  | .xor => .xorAImm n
  | .or => .orAImm n
  | .cp => .cpAImm n

/-- `INC r` (R234). -/
def Instr.incReg (r : Reg8) : Instr :=
  selReg r .incB .incC .incD .incE .incH .incL .incA

/-- `DEC r` (R236). -/
def Instr.decReg (r : Reg8) : Instr :=
  selReg r .decB .decC .decD .decE .decH .decL .decA

/-- `ADD HL,rp` (R250). -/
def Instr.addHlPair (p : Pair) : Instr :=
  match p with
  | .bc => .addHlBc
  | .de => .addHlDe
  | .hl => .addHlHl
  | .sp => .addHlSp

/-- `INC rp` (R252). -/
def Instr.incPair (p : Pair) : Instr :=
  match p with
  | .bc => .incBc
  | .de => .incDe
  | .hl => .incHl
  | .sp => .incSp

/-- `DEC rp` (R253). -/
def Instr.decPair (p : Pair) : Instr :=
  match p with
  | .bc => .decBc
  | .de => .decDe
  | .hl => .decHl
  | .sp => .decSp

/-- `JP cc,nn` (R271). -/
def Instr.jpCond (cc : Cond) (nn : Word) : Instr :=
  match cc with
  | .nz => .jpNzImm16 nn
  | .z => .jpZImm16 nn
  | .nc => .jpNcImm16 nn
  | .c => .jpCImm16 nn

/-- `JR cc,e` (R274). -/
def Instr.jrCond (cc : Cond) (n : Byte) : Instr :=
  match cc with
  | .nz => .jrNzRel n
  | .z => .jrZRel n
  | .nc => .jrNcRel n
  | .c => .jrCRel n

/-- `CALL cc,nn` (R276). -/
def Instr.callCond (cc : Cond) (nn : Word) : Instr :=
  match cc with
  | .nz => .callNzImm16 nn
  | .z => .callZImm16 nn
  | .nc => .callNcImm16 nn
  | .c => .callCImm16 nn

/-- `RET cc` (R279). -/
def Instr.retCond (cc : Cond) : Instr :=
  match cc with
  | .nz => .retNz
  | .z => .retZ
  | .nc => .retNc
  | .c => .retC

/-- `RST t` with `t = 8 * y` (R281). -/
def Instr.rstTo (y : BitVec 3) : Instr :=
  sel8 y .rst00 .rst08 .rst10 .rst18 .rst20 .rst28 .rst30 .rst38

/-- The rotates and shifts on a register (R290 to R305). -/
def Instr.rotReg (k : RotKind) (r : Reg8) : Instr :=
  match k with
  | .rlc => selReg r .rlcB .rlcC .rlcD .rlcE .rlcH .rlcL .rlcA
  | .rrc => selReg r .rrcB .rrcC .rrcD .rrcE .rrcH .rrcL .rrcA
  | .rl => selReg r .rlB .rlC .rlD .rlE .rlH .rlL .rlA
  | .rr => selReg r .rrB .rrC .rrD .rrE .rrH .rrL .rrA
  | .sla => selReg r .slaB .slaC .slaD .slaE .slaH .slaL .slaA
  | .sra => selReg r .sraB .sraC .sraD .sraE .sraH .sraL .sraA
  | .swap => selReg r .swapB .swapC .swapD .swapE .swapH .swapL .swapA
  | .srl => selReg r .srlB .srlC .srlD .srlE .srlH .srlL .srlA

/-- The rotates and shifts on the byte at HL. -/
def Instr.rotAtHl (k : RotKind) : Instr :=
  match k with
  | .rlc => .rlcAtHl
  | .rrc => .rrcAtHl
  | .rl => .rlAtHl
  | .rr => .rrAtHl
  | .sla => .slaAtHl
  | .sra => .sraAtHl
  | .swap => .swapAtHl
  | .srl => .srlAtHl

/-- `BIT n,r` (R306). -/
def Instr.bitReg (n : BitVec 3) (r : Reg8) : Instr :=
  match r with
  | .b => sel8 n .bit0B .bit1B .bit2B .bit3B .bit4B .bit5B .bit6B .bit7B
  | .c => sel8 n .bit0C .bit1C .bit2C .bit3C .bit4C .bit5C .bit6C .bit7C
  | .d => sel8 n .bit0D .bit1D .bit2D .bit3D .bit4D .bit5D .bit6D .bit7D
  | .e => sel8 n .bit0E .bit1E .bit2E .bit3E .bit4E .bit5E .bit6E .bit7E
  | .h => sel8 n .bit0H .bit1H .bit2H .bit3H .bit4H .bit5H .bit6H .bit7H
  | .l => sel8 n .bit0L .bit1L .bit2L .bit3L .bit4L .bit5L .bit6L .bit7L
  | .a => sel8 n .bit0A .bit1A .bit2A .bit3A .bit4A .bit5A .bit6A .bit7A

/-- `BIT n,(HL)` (R307). -/
def Instr.bitAtHl (n : BitVec 3) : Instr :=
  sel8 n .bit0AtHl .bit1AtHl .bit2AtHl .bit3AtHl .bit4AtHl .bit5AtHl .bit6AtHl .bit7AtHl

/-- `RES n,r` (R308). -/
def Instr.resReg (n : BitVec 3) (r : Reg8) : Instr :=
  match r with
  | .b => sel8 n .res0B .res1B .res2B .res3B .res4B .res5B .res6B .res7B
  | .c => sel8 n .res0C .res1C .res2C .res3C .res4C .res5C .res6C .res7C
  | .d => sel8 n .res0D .res1D .res2D .res3D .res4D .res5D .res6D .res7D
  | .e => sel8 n .res0E .res1E .res2E .res3E .res4E .res5E .res6E .res7E
  | .h => sel8 n .res0H .res1H .res2H .res3H .res4H .res5H .res6H .res7H
  | .l => sel8 n .res0L .res1L .res2L .res3L .res4L .res5L .res6L .res7L
  | .a => sel8 n .res0A .res1A .res2A .res3A .res4A .res5A .res6A .res7A

/-- `RES n,(HL)` (R309). -/
def Instr.resAtHl (n : BitVec 3) : Instr :=
  sel8 n .res0AtHl .res1AtHl .res2AtHl .res3AtHl .res4AtHl .res5AtHl .res6AtHl .res7AtHl

/-- `SET n,r` (R310). -/
def Instr.setReg (n : BitVec 3) (r : Reg8) : Instr :=
  match r with
  | .b => sel8 n .set0B .set1B .set2B .set3B .set4B .set5B .set6B .set7B
  | .c => sel8 n .set0C .set1C .set2C .set3C .set4C .set5C .set6C .set7C
  | .d => sel8 n .set0D .set1D .set2D .set3D .set4D .set5D .set6D .set7D
  | .e => sel8 n .set0E .set1E .set2E .set3E .set4E .set5E .set6E .set7E
  | .h => sel8 n .set0H .set1H .set2H .set3H .set4H .set5H .set6H .set7H
  | .l => sel8 n .set0L .set1L .set2L .set3L .set4L .set5L .set6L .set7L
  | .a => sel8 n .set0A .set1A .set2A .set3A .set4A .set5A .set6A .set7A

/-- `SET n,(HL)` (R311). -/
def Instr.setAtHl (n : BitVec 3) : Instr :=
  sel8 n .set0AtHl .set1AtHl .set2AtHl .set3AtHl .set4AtHl .set5AtHl .set6AtHl .set7AtHl

/-! ### The opcode maps (R96, R97, R98) -/

/-- What the base table holds for a first byte. -/
inductive Entry where
  /-- BASE1: an instruction with no immediate. -/
  | plain (i : Instr)
  /-- BASE2: one immediate byte follows. -/
  | imm8 (make : Byte → Instr)
  /-- BASE3: two immediate bytes follow, the low one first. -/
  | imm16 (make : Word → Instr)
  /-- The byte 0xCB, which selects the CB-extended table (R92, R324). -/
  | escapeCb
  /-- An unassigned byte (R98, R325): its row has no operand bytes and raises. -/
  | unassigned (i : Instr)

/-- `x = 0` of the list in R96. -/
def entryX0 (y z : BitVec 3) : Entry :=
  let p := fieldP y
  let rp (f : Pair → Instr) : Instr := sel4 p (f .bc) (f .de) (f .hl) (f .sp)
  sel8 z
    (sel8 y (.plain .nop) (.imm16 .ldAtImm16Sp) (.imm8 .stop) (.imm8 .jrRel)
      (.imm8 (.jrCond .nz)) (.imm8 (.jrCond .z)) (.imm8 (.jrCond .nc)) (.imm8 (.jrCond .c)))
    (if fieldQ y then .plain (rp .addHlPair)
      else .imm16 fun nn => rp fun pair => .ldPairImm16 pair nn)
    (if fieldQ y then .plain (sel4 p .ldAAtBc .ldAAtDe .ldAAtHlInc .ldAAtHlDec)
      else .plain (sel4 p .ldAtBcA .ldAtDeA .ldAtHlIncA .ldAtHlDecA))
    (if fieldQ y then .plain (rp .decPair) else .plain (rp .incPair))
    (.plain (operand y .incReg .incAtHl))
    (.plain (operand y .decReg .decAtHl))
    (.imm8 fun n => operand y (fun r => .ldRegImm r n) (.ldAtHlImm n))
    (.plain (sel8 y .rlca .rrca .rla .rra .daa .cpl .scf .ccf))

/-- `x = 1` of the list in R96: `LD r,r'` but for 0x76, which is HALT. -/
def entryX1 (y z : BitVec 3) : Entry :=
  .plain (operand y (fun dst => operand z (.ldRegReg dst) (.ldRegAtHl dst)) (operand z .ldAtHlReg .halt))

/-- The `alu` coding (R95). -/
def aluField (y : BitVec 3) : AluOp := sel8 y .add .adc .sub .sbc .and .xor .or .cp

/-- `x = 2` of the list in R96. -/
def entryX2 (y z : BitVec 3) : Entry :=
  .plain (operand z (.aluReg (aluField y)) (.aluAtHl (aluField y)))

/-- `x = 3` of the list in R96. -/
def entryX3 (y z : BitVec 3) : Entry :=
  let p := fieldP y
  sel8 z
    (sel8 y (.plain .retNz) (.plain .retZ) (.plain .retNc) (.plain .retC)
      (.imm8 .ldhAtImmA) (.imm8 .addSpRel) (.imm8 .ldhAAtImm) (.imm8 .ldHlSpRel))
    (if fieldQ y then .plain (sel4 p .ret .reti .jpHl .ldSpHl)
      else .plain (sel4 p (.popPair .bc) (.popPair .de) (.popPair .hl) (.popPair .af)))
    (sel8 y (.imm16 (.jpCond .nz)) (.imm16 (.jpCond .z)) (.imm16 (.jpCond .nc)) (.imm16 (.jpCond .c))
      (.plain .ldAtCA) (.imm16 .ldAtImm16A) (.plain .ldAAtC) (.imm16 .ldAAtImm16))
    (sel8 y (.imm16 .jpImm16) .escapeCb (.unassigned .undefinedD3) (.unassigned .undefinedDB)
      (.unassigned .undefinedE3) (.unassigned .undefinedEB) (.plain .di) (.plain .ei))
    (sel8 y (.imm16 (.callCond .nz)) (.imm16 (.callCond .z)) (.imm16 (.callCond .nc)) (.imm16 (.callCond .c))
      (.unassigned .undefinedE4) (.unassigned .undefinedEC) (.unassigned .undefinedF4) (.unassigned .undefinedFC))
    (if fieldQ y then
        sel4 p (.imm16 .callImm16) (.unassigned .undefinedDD) (.unassigned .undefinedED) (.unassigned .undefinedFD)
      else .plain (sel4 p (.pushPair .bc) (.pushPair .de) (.pushPair .hl) (.pushPair .af)))
    (.imm8 (.aluImm (aluField y)))
    (.plain (.rstTo y))

/-- The base opcode map (R96), by the fields of the byte. -/
def baseEntry (op : Byte) : Entry :=
  let y := fieldY op
  let z := fieldZ op
  sel4 (fieldX op) (entryX0 y z) (entryX1 y z) (entryX2 y z) (entryX3 y z)

/-- The CB-extended table (R97), by the fields of the second byte. -/
def cbInstr (op2 : Byte) : Instr :=
  let y := fieldY op2
  let z := fieldZ op2
  let kind : RotKind := sel8 y .rlc .rrc .rl .rr .sla .sra .swap .srl
  sel4 (fieldX op2) (operand z (.rotReg kind) (.rotAtHl kind)) (operand z (.bitReg y) (.bitAtHl y))
    (operand z (.resReg y) (.resAtHl y)) (operand z (.setReg y) (.setAtHl y))

/-! ### The implemented sets (R6, R100) -/

/-- `IMPL_BASE` at the spec's default (R6): the 244 byte values to which R96 assigns an instruction (log entry 4). -/
def implBase (op : Byte) : Bool :=
  match baseEntry op with
  | .plain _ => true
  | .imm8 _ => true
  | .imm16 _ => true
  | .escapeCb => false
  | .unassigned _ => false

/-- `IMPL_CB` at the spec's default (R6): all 256 values (log entry 4). -/
def implCb (_op2 : Byte) : Bool := true

/-- The setting of the two sets (R6, log entry 4). -/
def implSets : ImplSets where
  base := implBase
  cb := implCb

/-- A legal setting (R6, R98): every member of `base` is assigned, and NOP and `LD B,n` are members. -/
def ImplSets.legal (sets : ImplSets) : Prop :=
  sets.base 0x00 = true ∧ sets.base 0x06 = true ∧ ∀ op, sets.base op = true → implBase op = true

/-! ### The decoder -/

/-- Why bytes give no instruction. -/
inductive DecodeError where
  /-- The bytes end inside an instruction. -/
  | truncated
  /-- Table miss (R100): this looked-up byte is assigned but not in the implemented set (R326). -/
  | notImplemented (opcode : Byte)
deriving DecidableEq, Repr

/-- The first instruction of a byte sequence and the bytes after it (R90, R92, R93), for given implemented sets (R6, R100).
An unassigned byte gives its row `UNDEFINED_xx` (R325), whose meaning is the fault. -/
def decodeIn (sets : ImplSets) (bytes : List Byte) : Except DecodeError (Instr × List Byte) :=
  match bytes with
  | [] => .error .truncated
  | op :: rest =>
    match baseEntry op with
    | .unassigned i => .ok (i, rest)
    | .escapeCb =>
      match rest with
      | [] => .error .truncated
      | op2 :: rest' => if sets.cb op2 then .ok (cbInstr op2, rest') else .error (.notImplemented op2)
    | .plain i => if sets.base op then .ok (i, rest) else .error (.notImplemented op)
    | .imm8 make =>
      if sets.base op then
        match rest with
        | n :: rest' => .ok (make n, rest')
        | [] => .error .truncated
      else .error (.notImplemented op)
    | .imm16 make =>
      if sets.base op then
        match rest with
        | l :: h :: rest' => .ok (make (word h l), rest')
        | _ => .error .truncated
      else .error (.notImplemented op)

/-- The decoder at the model's setting of the sets. -/
def decode (bytes : List Byte) : Except DecodeError (Instr × List Byte) := decodeIn implSets bytes

/-! ### The host's view of a table row (log entry 6) -/

/-- The three bytes, lowest address first, of a table row whose bits are `w`; bits above `nbits` are 0. The table numbers
a CB row as `first byte * 256 + second byte` (R103), so a 16-bit value with 0xCB in bits 15 to 8 has its first byte there;
any other value has its first byte in bits 7 to 0. -/
def tableBytes (nbits w : Nat) : List Byte :=
  let v := w % 2 ^ nbits
  let b0 : Byte := BitVec.ofNat 8 v
  let b1 : Byte := BitVec.ofNat 8 (v / 256)
  if nbits = 16 ∧ b1 = 0xCB then [b1, b0, 0] else [b0, b1, BitVec.ofNat 8 (v / 65536)]

/-- The instruction the decoder reads from a table row's bits. -/
def decodeTableWord (nbits w : Nat) : Option Instr :=
  match decode (tableBytes nbits w) with
  | .ok (i, _) => some i
  | .error _ => none

/-! ### The encoder -/

/-- The bytes of an instruction in address order, from the `encoding` column of the opcode table (R103); a 16-bit
immediate has its low byte first (R93). -/
def encode (i : Instr) : List Byte :=
  match i with
  | .nop => [0x00]
  | .ldBcImm16 nn => [0x01, lo nn, hi nn]
  | .ldAtBcA => [0x02]
  | .incBc => [0x03]
  | .incB => [0x04]
  | .decB => [0x05]
  | .ldBImm n => [0x06, n]
  | .rlca => [0x07]
  | .ldAtImm16Sp nn => [0x08, lo nn, hi nn]
  | .addHlBc => [0x09]
  | .ldAAtBc => [0x0A]
  | .decBc => [0x0B]
  | .incC => [0x0C]
  | .decC => [0x0D]
  | .ldCImm n => [0x0E, n]
  | .rrca => [0x0F]
  | .stop n => [0x10, n]
  | .ldDeImm16 nn => [0x11, lo nn, hi nn]
  | .ldAtDeA => [0x12]
  | .incDe => [0x13]
  | .incD => [0x14]
  | .decD => [0x15]
  | .ldDImm n => [0x16, n]
  | .rla => [0x17]
  | .jrRel n => [0x18, n]
  | .addHlDe => [0x19]
  | .ldAAtDe => [0x1A]
  | .decDe => [0x1B]
  | .incE => [0x1C]
  | .decE => [0x1D]
  | .ldEImm n => [0x1E, n]
  | .rra => [0x1F]
  | .jrNzRel n => [0x20, n]
  | .ldHlImm16 nn => [0x21, lo nn, hi nn]
  | .ldAtHlIncA => [0x22]
  | .incHl => [0x23]
  | .incH => [0x24]
  | .decH => [0x25]
  | .ldHImm n => [0x26, n]
  | .daa => [0x27]
  | .jrZRel n => [0x28, n]
  | .addHlHl => [0x29]
  | .ldAAtHlInc => [0x2A]
  | .decHl => [0x2B]
  | .incL => [0x2C]
  | .decL => [0x2D]
  | .ldLImm n => [0x2E, n]
  | .cpl => [0x2F]
  | .jrNcRel n => [0x30, n]
  | .ldSpImm16 nn => [0x31, lo nn, hi nn]
  | .ldAtHlDecA => [0x32]
  | .incSp => [0x33]
  | .incAtHl => [0x34]
  | .decAtHl => [0x35]
  | .ldAtHlImm n => [0x36, n]
  | .scf => [0x37]
  | .jrCRel n => [0x38, n]
  | .addHlSp => [0x39]
  | .ldAAtHlDec => [0x3A]
  | .decSp => [0x3B]
  | .incA => [0x3C]
  | .decA => [0x3D]
  | .ldAImm n => [0x3E, n]
  | .ccf => [0x3F]
  | .ldBB => [0x40]
  | .ldBC => [0x41]
  | .ldBD => [0x42]
  | .ldBE => [0x43]
  | .ldBH => [0x44]
  | .ldBL => [0x45]
  | .ldBAtHl => [0x46]
  | .ldBA => [0x47]
  | .ldCB => [0x48]
  | .ldCC => [0x49]
  | .ldCD => [0x4A]
  | .ldCE => [0x4B]
  | .ldCH => [0x4C]
  | .ldCL => [0x4D]
  | .ldCAtHl => [0x4E]
  | .ldCA => [0x4F]
  | .ldDB => [0x50]
  | .ldDC => [0x51]
  | .ldDD => [0x52]
  | .ldDE => [0x53]
  | .ldDH => [0x54]
  | .ldDL => [0x55]
  | .ldDAtHl => [0x56]
  | .ldDA => [0x57]
  | .ldEB => [0x58]
  | .ldEC => [0x59]
  | .ldED => [0x5A]
  | .ldEE => [0x5B]
  | .ldEH => [0x5C]
  | .ldEL => [0x5D]
  | .ldEAtHl => [0x5E]
  | .ldEA => [0x5F]
  | .ldHB => [0x60]
  | .ldHC => [0x61]
  | .ldHD => [0x62]
  | .ldHE => [0x63]
  | .ldHH => [0x64]
  | .ldHL => [0x65]
  | .ldHAtHl => [0x66]
  | .ldHA => [0x67]
  | .ldLB => [0x68]
  | .ldLC => [0x69]
  | .ldLD => [0x6A]
  | .ldLE => [0x6B]
  | .ldLH => [0x6C]
  | .ldLL => [0x6D]
  | .ldLAtHl => [0x6E]
  | .ldLA => [0x6F]
  | .ldAtHlB => [0x70]
  | .ldAtHlC => [0x71]
  | .ldAtHlD => [0x72]
  | .ldAtHlE => [0x73]
  | .ldAtHlH => [0x74]
  | .ldAtHlL => [0x75]
  | .halt => [0x76]
  | .ldAtHlA => [0x77]
  | .ldAB => [0x78]
  | .ldAC => [0x79]
  | .ldAD => [0x7A]
  | .ldAE => [0x7B]
  | .ldAH => [0x7C]
  | .ldAL => [0x7D]
  | .ldAAtHl => [0x7E]
  | .ldAA => [0x7F]
  | .addAB => [0x80]
  | .addAC => [0x81]
  | .addAD => [0x82]
  | .addAE => [0x83]
  | .addAH => [0x84]
  | .addAL => [0x85]
  | .addAAtHl => [0x86]
  | .addAA => [0x87]
  | .adcAB => [0x88]
  | .adcAC => [0x89]
  | .adcAD => [0x8A]
  | .adcAE => [0x8B]
  | .adcAH => [0x8C]
  | .adcAL => [0x8D]
  | .adcAAtHl => [0x8E]
  | .adcAA => [0x8F]
  | .subAB => [0x90]
  | .subAC => [0x91]
  | .subAD => [0x92]
  | .subAE => [0x93]
  | .subAH => [0x94]
  | .subAL => [0x95]
  | .subAAtHl => [0x96]
  | .subAA => [0x97]
  | .sbcAB => [0x98]
  | .sbcAC => [0x99]
  | .sbcAD => [0x9A]
  | .sbcAE => [0x9B]
  | .sbcAH => [0x9C]
  | .sbcAL => [0x9D]
  | .sbcAAtHl => [0x9E]
  | .sbcAA => [0x9F]
  | .andAB => [0xA0]
  | .andAC => [0xA1]
  | .andAD => [0xA2]
  | .andAE => [0xA3]
  | .andAH => [0xA4]
  | .andAL => [0xA5]
  | .andAAtHl => [0xA6]
  | .andAA => [0xA7]
  | .xorAB => [0xA8]
  | .xorAC => [0xA9]
  | .xorAD => [0xAA]
  | .xorAE => [0xAB]
  | .xorAH => [0xAC]
  | .xorAL => [0xAD]
  | .xorAAtHl => [0xAE]
  | .xorAA => [0xAF]
  | .orAB => [0xB0]
  | .orAC => [0xB1]
  | .orAD => [0xB2]
  | .orAE => [0xB3]
  | .orAH => [0xB4]
  | .orAL => [0xB5]
  | .orAAtHl => [0xB6]
  | .orAA => [0xB7]
  | .cpAB => [0xB8]
  | .cpAC => [0xB9]
  | .cpAD => [0xBA]
  | .cpAE => [0xBB]
  | .cpAH => [0xBC]
  | .cpAL => [0xBD]
  | .cpAAtHl => [0xBE]
  | .cpAA => [0xBF]
  | .retNz => [0xC0]
  | .popBc => [0xC1]
  | .jpNzImm16 nn => [0xC2, lo nn, hi nn]
  | .jpImm16 nn => [0xC3, lo nn, hi nn]
  | .callNzImm16 nn => [0xC4, lo nn, hi nn]
  | .pushBc => [0xC5]
  | .addAImm n => [0xC6, n]
  | .rst00 => [0xC7]
  | .retZ => [0xC8]
  | .ret => [0xC9]
  | .jpZImm16 nn => [0xCA, lo nn, hi nn]
  | .callZImm16 nn => [0xCC, lo nn, hi nn]
  | .callImm16 nn => [0xCD, lo nn, hi nn]
  | .adcAImm n => [0xCE, n]
  | .rst08 => [0xCF]
  | .retNc => [0xD0]
  | .popDe => [0xD1]
  | .jpNcImm16 nn => [0xD2, lo nn, hi nn]
  | .undefinedD3 => [0xD3]
  | .callNcImm16 nn => [0xD4, lo nn, hi nn]
  | .pushDe => [0xD5]
  | .subAImm n => [0xD6, n]
  | .rst10 => [0xD7]
  | .retC => [0xD8]
  | .reti => [0xD9]
  | .jpCImm16 nn => [0xDA, lo nn, hi nn]
  | .undefinedDB => [0xDB]
  | .callCImm16 nn => [0xDC, lo nn, hi nn]
  | .undefinedDD => [0xDD]
  | .sbcAImm n => [0xDE, n]
  | .rst18 => [0xDF]
  | .ldhAtImmA n => [0xE0, n]
  | .popHl => [0xE1]
  | .ldAtCA => [0xE2]
  | .undefinedE3 => [0xE3]
  | .undefinedE4 => [0xE4]
  | .pushHl => [0xE5]
  | .andAImm n => [0xE6, n]
  | .rst20 => [0xE7]
  | .addSpRel n => [0xE8, n]
  | .jpHl => [0xE9]
  | .ldAtImm16A nn => [0xEA, lo nn, hi nn]
  | .undefinedEB => [0xEB]
  | .undefinedEC => [0xEC]
  | .undefinedED => [0xED]
  | .xorAImm n => [0xEE, n]
  | .rst28 => [0xEF]
  | .ldhAAtImm n => [0xF0, n]
  | .popAf => [0xF1]
  | .ldAAtC => [0xF2]
  | .di => [0xF3]
  | .undefinedF4 => [0xF4]
  | .pushAf => [0xF5]
  | .orAImm n => [0xF6, n]
  | .rst30 => [0xF7]
  | .ldHlSpRel n => [0xF8, n]
  | .ldSpHl => [0xF9]
  | .ldAAtImm16 nn => [0xFA, lo nn, hi nn]
  | .ei => [0xFB]
  | .undefinedFC => [0xFC]
  | .undefinedFD => [0xFD]
  | .cpAImm n => [0xFE, n]
  | .rst38 => [0xFF]
  | .rlcB => [0xCB, 0x00]
  | .rlcC => [0xCB, 0x01]
  | .rlcD => [0xCB, 0x02]
  | .rlcE => [0xCB, 0x03]
  | .rlcH => [0xCB, 0x04]
  | .rlcL => [0xCB, 0x05]
  | .rlcAtHl => [0xCB, 0x06]
  | .rlcA => [0xCB, 0x07]
  | .rrcB => [0xCB, 0x08]
  | .rrcC => [0xCB, 0x09]
  | .rrcD => [0xCB, 0x0A]
  | .rrcE => [0xCB, 0x0B]
  | .rrcH => [0xCB, 0x0C]
  | .rrcL => [0xCB, 0x0D]
  | .rrcAtHl => [0xCB, 0x0E]
  | .rrcA => [0xCB, 0x0F]
  | .rlB => [0xCB, 0x10]
  | .rlC => [0xCB, 0x11]
  | .rlD => [0xCB, 0x12]
  | .rlE => [0xCB, 0x13]
  | .rlH => [0xCB, 0x14]
  | .rlL => [0xCB, 0x15]
  | .rlAtHl => [0xCB, 0x16]
  | .rlA => [0xCB, 0x17]
  | .rrB => [0xCB, 0x18]
  | .rrC => [0xCB, 0x19]
  | .rrD => [0xCB, 0x1A]
  | .rrE => [0xCB, 0x1B]
  | .rrH => [0xCB, 0x1C]
  | .rrL => [0xCB, 0x1D]
  | .rrAtHl => [0xCB, 0x1E]
  | .rrA => [0xCB, 0x1F]
  | .slaB => [0xCB, 0x20]
  | .slaC => [0xCB, 0x21]
  | .slaD => [0xCB, 0x22]
  | .slaE => [0xCB, 0x23]
  | .slaH => [0xCB, 0x24]
  | .slaL => [0xCB, 0x25]
  | .slaAtHl => [0xCB, 0x26]
  | .slaA => [0xCB, 0x27]
  | .sraB => [0xCB, 0x28]
  | .sraC => [0xCB, 0x29]
  | .sraD => [0xCB, 0x2A]
  | .sraE => [0xCB, 0x2B]
  | .sraH => [0xCB, 0x2C]
  | .sraL => [0xCB, 0x2D]
  | .sraAtHl => [0xCB, 0x2E]
  | .sraA => [0xCB, 0x2F]
  | .swapB => [0xCB, 0x30]
  | .swapC => [0xCB, 0x31]
  | .swapD => [0xCB, 0x32]
  | .swapE => [0xCB, 0x33]
  | .swapH => [0xCB, 0x34]
  | .swapL => [0xCB, 0x35]
  | .swapAtHl => [0xCB, 0x36]
  | .swapA => [0xCB, 0x37]
  | .srlB => [0xCB, 0x38]
  | .srlC => [0xCB, 0x39]
  | .srlD => [0xCB, 0x3A]
  | .srlE => [0xCB, 0x3B]
  | .srlH => [0xCB, 0x3C]
  | .srlL => [0xCB, 0x3D]
  | .srlAtHl => [0xCB, 0x3E]
  | .srlA => [0xCB, 0x3F]
  | .bit0B => [0xCB, 0x40]
  | .bit0C => [0xCB, 0x41]
  | .bit0D => [0xCB, 0x42]
  | .bit0E => [0xCB, 0x43]
  | .bit0H => [0xCB, 0x44]
  | .bit0L => [0xCB, 0x45]
  | .bit0AtHl => [0xCB, 0x46]
  | .bit0A => [0xCB, 0x47]
  | .bit1B => [0xCB, 0x48]
  | .bit1C => [0xCB, 0x49]
  | .bit1D => [0xCB, 0x4A]
  | .bit1E => [0xCB, 0x4B]
  | .bit1H => [0xCB, 0x4C]
  | .bit1L => [0xCB, 0x4D]
  | .bit1AtHl => [0xCB, 0x4E]
  | .bit1A => [0xCB, 0x4F]
  | .bit2B => [0xCB, 0x50]
  | .bit2C => [0xCB, 0x51]
  | .bit2D => [0xCB, 0x52]
  | .bit2E => [0xCB, 0x53]
  | .bit2H => [0xCB, 0x54]
  | .bit2L => [0xCB, 0x55]
  | .bit2AtHl => [0xCB, 0x56]
  | .bit2A => [0xCB, 0x57]
  | .bit3B => [0xCB, 0x58]
  | .bit3C => [0xCB, 0x59]
  | .bit3D => [0xCB, 0x5A]
  | .bit3E => [0xCB, 0x5B]
  | .bit3H => [0xCB, 0x5C]
  | .bit3L => [0xCB, 0x5D]
  | .bit3AtHl => [0xCB, 0x5E]
  | .bit3A => [0xCB, 0x5F]
  | .bit4B => [0xCB, 0x60]
  | .bit4C => [0xCB, 0x61]
  | .bit4D => [0xCB, 0x62]
  | .bit4E => [0xCB, 0x63]
  | .bit4H => [0xCB, 0x64]
  | .bit4L => [0xCB, 0x65]
  | .bit4AtHl => [0xCB, 0x66]
  | .bit4A => [0xCB, 0x67]
  | .bit5B => [0xCB, 0x68]
  | .bit5C => [0xCB, 0x69]
  | .bit5D => [0xCB, 0x6A]
  | .bit5E => [0xCB, 0x6B]
  | .bit5H => [0xCB, 0x6C]
  | .bit5L => [0xCB, 0x6D]
  | .bit5AtHl => [0xCB, 0x6E]
  | .bit5A => [0xCB, 0x6F]
  | .bit6B => [0xCB, 0x70]
  | .bit6C => [0xCB, 0x71]
  | .bit6D => [0xCB, 0x72]
  | .bit6E => [0xCB, 0x73]
  | .bit6H => [0xCB, 0x74]
  | .bit6L => [0xCB, 0x75]
  | .bit6AtHl => [0xCB, 0x76]
  | .bit6A => [0xCB, 0x77]
  | .bit7B => [0xCB, 0x78]
  | .bit7C => [0xCB, 0x79]
  | .bit7D => [0xCB, 0x7A]
  | .bit7E => [0xCB, 0x7B]
  | .bit7H => [0xCB, 0x7C]
  | .bit7L => [0xCB, 0x7D]
  | .bit7AtHl => [0xCB, 0x7E]
  | .bit7A => [0xCB, 0x7F]
  | .res0B => [0xCB, 0x80]
  | .res0C => [0xCB, 0x81]
  | .res0D => [0xCB, 0x82]
  | .res0E => [0xCB, 0x83]
  | .res0H => [0xCB, 0x84]
  | .res0L => [0xCB, 0x85]
  | .res0AtHl => [0xCB, 0x86]
  | .res0A => [0xCB, 0x87]
  | .res1B => [0xCB, 0x88]
  | .res1C => [0xCB, 0x89]
  | .res1D => [0xCB, 0x8A]
  | .res1E => [0xCB, 0x8B]
  | .res1H => [0xCB, 0x8C]
  | .res1L => [0xCB, 0x8D]
  | .res1AtHl => [0xCB, 0x8E]
  | .res1A => [0xCB, 0x8F]
  | .res2B => [0xCB, 0x90]
  | .res2C => [0xCB, 0x91]
  | .res2D => [0xCB, 0x92]
  | .res2E => [0xCB, 0x93]
  | .res2H => [0xCB, 0x94]
  | .res2L => [0xCB, 0x95]
  | .res2AtHl => [0xCB, 0x96]
  | .res2A => [0xCB, 0x97]
  | .res3B => [0xCB, 0x98]
  | .res3C => [0xCB, 0x99]
  | .res3D => [0xCB, 0x9A]
  | .res3E => [0xCB, 0x9B]
  | .res3H => [0xCB, 0x9C]
  | .res3L => [0xCB, 0x9D]
  | .res3AtHl => [0xCB, 0x9E]
  | .res3A => [0xCB, 0x9F]
  | .res4B => [0xCB, 0xA0]
  | .res4C => [0xCB, 0xA1]
  | .res4D => [0xCB, 0xA2]
  | .res4E => [0xCB, 0xA3]
  | .res4H => [0xCB, 0xA4]
  | .res4L => [0xCB, 0xA5]
  | .res4AtHl => [0xCB, 0xA6]
  | .res4A => [0xCB, 0xA7]
  | .res5B => [0xCB, 0xA8]
  | .res5C => [0xCB, 0xA9]
  | .res5D => [0xCB, 0xAA]
  | .res5E => [0xCB, 0xAB]
  | .res5H => [0xCB, 0xAC]
  | .res5L => [0xCB, 0xAD]
  | .res5AtHl => [0xCB, 0xAE]
  | .res5A => [0xCB, 0xAF]
  | .res6B => [0xCB, 0xB0]
  | .res6C => [0xCB, 0xB1]
  | .res6D => [0xCB, 0xB2]
  | .res6E => [0xCB, 0xB3]
  | .res6H => [0xCB, 0xB4]
  | .res6L => [0xCB, 0xB5]
  | .res6AtHl => [0xCB, 0xB6]
  | .res6A => [0xCB, 0xB7]
  | .res7B => [0xCB, 0xB8]
  | .res7C => [0xCB, 0xB9]
  | .res7D => [0xCB, 0xBA]
  | .res7E => [0xCB, 0xBB]
  | .res7H => [0xCB, 0xBC]
  | .res7L => [0xCB, 0xBD]
  | .res7AtHl => [0xCB, 0xBE]
  | .res7A => [0xCB, 0xBF]
  | .set0B => [0xCB, 0xC0]
  | .set0C => [0xCB, 0xC1]
  | .set0D => [0xCB, 0xC2]
  | .set0E => [0xCB, 0xC3]
  | .set0H => [0xCB, 0xC4]
  | .set0L => [0xCB, 0xC5]
  | .set0AtHl => [0xCB, 0xC6]
  | .set0A => [0xCB, 0xC7]
  | .set1B => [0xCB, 0xC8]
  | .set1C => [0xCB, 0xC9]
  | .set1D => [0xCB, 0xCA]
  | .set1E => [0xCB, 0xCB]
  | .set1H => [0xCB, 0xCC]
  | .set1L => [0xCB, 0xCD]
  | .set1AtHl => [0xCB, 0xCE]
  | .set1A => [0xCB, 0xCF]
  | .set2B => [0xCB, 0xD0]
  | .set2C => [0xCB, 0xD1]
  | .set2D => [0xCB, 0xD2]
  | .set2E => [0xCB, 0xD3]
  | .set2H => [0xCB, 0xD4]
  | .set2L => [0xCB, 0xD5]
  | .set2AtHl => [0xCB, 0xD6]
  | .set2A => [0xCB, 0xD7]
  | .set3B => [0xCB, 0xD8]
  | .set3C => [0xCB, 0xD9]
  | .set3D => [0xCB, 0xDA]
  | .set3E => [0xCB, 0xDB]
  | .set3H => [0xCB, 0xDC]
  | .set3L => [0xCB, 0xDD]
  | .set3AtHl => [0xCB, 0xDE]
  | .set3A => [0xCB, 0xDF]
  | .set4B => [0xCB, 0xE0]
  | .set4C => [0xCB, 0xE1]
  | .set4D => [0xCB, 0xE2]
  | .set4E => [0xCB, 0xE3]
  | .set4H => [0xCB, 0xE4]
  | .set4L => [0xCB, 0xE5]
  | .set4AtHl => [0xCB, 0xE6]
  | .set4A => [0xCB, 0xE7]
  | .set5B => [0xCB, 0xE8]
  | .set5C => [0xCB, 0xE9]
  | .set5D => [0xCB, 0xEA]
  | .set5E => [0xCB, 0xEB]
  | .set5H => [0xCB, 0xEC]
  | .set5L => [0xCB, 0xED]
  | .set5AtHl => [0xCB, 0xEE]
  | .set5A => [0xCB, 0xEF]
  | .set6B => [0xCB, 0xF0]
  | .set6C => [0xCB, 0xF1]
  | .set6D => [0xCB, 0xF2]
  | .set6E => [0xCB, 0xF3]
  | .set6H => [0xCB, 0xF4]
  | .set6L => [0xCB, 0xF5]
  | .set6AtHl => [0xCB, 0xF6]
  | .set6A => [0xCB, 0xF7]
  | .set7B => [0xCB, 0xF8]
  | .set7C => [0xCB, 0xF9]
  | .set7D => [0xCB, 0xFA]
  | .set7E => [0xCB, 0xFB]
  | .set7H => [0xCB, 0xFC]
  | .set7L => [0xCB, 0xFD]
  | .set7AtHl => [0xCB, 0xFE]
  | .set7A => [0xCB, 0xFF]

end Sys2Proof
end

