-- ==== Sys2Proof/Machine/Params.lean ====
section
/-! DEFINITION. The settings of the parameters R7, R9 and R10, each at the spec's value (log entry 4). Machine/Settings.lean
gathers them with the others. -/

namespace Sys2Proof.Machine.Params

open Sys2Proof

/-- `BITNUM`, normative value `msb0` (R7). -/
def bitNum : BitNum := .msb0

/-- `ACC_ROT_Z`, default `clear` (R9). -/
def accRotZ : AccRotZ := .clear

/-- `ROM_WRITE`, default `drop` (R10). -/
def romWrite : RomWrite := .drop

end Sys2Proof.Machine.Params
end

