-- ==== Sys2Proof/Machine/State.lean ====
section
/-! DEFINITION. Every piece of state the spec gives the machine (10_state.md), as plain data, its value after reset (R403),
and the reasons a step can stop (R18, R370). -/

namespace Sys2Proof.Machine

open Sys2Proof

/-- Bytes by address, strictly rising addresses, no byte 0x00 listed: an address that is not listed reads as 0x00, the
reset contents of every region (R35, R37, R403). -/
abbrev Memory := List Host.Cell

/-- The memory regions (R35, R37): six owned by the Bus, VRAM and OAM by the GPU. -/
inductive Region where
  | bios | rom0 | rom1 | vram | eram | wram | oam | zram
deriving DecidableEq, Repr

/-- The four modes of the GPU (R335, R37). -/
inductive GpuMode where
  | hBlank | vBlank | oamScan | vramRead
deriving DecidableEq, Repr

/-- The state the GraphicsTimingUnit owns (R37), but for VRAM and OAM, which stand in `State.mem`. -/
structure Gpu where
  /-- The phase of the scanline state machine. -/
  mode : GpuMode
  /-- The scanline counter, 0 to 153. -/
  line : Nat
  /-- Cycles accumulated in the current mode, in units of `cycles / 4`. -/
  modeClock : Nat
  scrollX : Byte
  scrollY : Byte
  backgroundPalette : Byte
  lcdControl : Byte
  /-- 144 rows of 160 two-bit palette indices, origin top-left. -/
  frameBuffer : List (List (BitVec 2))
  /-- The number of frame-ready events sent (R352). -/
  frameCount : Nat
deriving DecidableEq, Repr

/-- The `fault` record (R31, R370): the kind and its payload. -/
inductive FaultRecord where
  /-- R371. Raised by the fetch at a table miss and by the meaning of the eleven unassigned bytes (R325). Safe: the
  hardware stops here too. -/
  | instructionNotImplemented (opcode : Byte) (address : Word)
  /-- R372. Raised by the bus on a read or write that nothing answers; `region` is present only for the bounds check of
  R73. Safe: the hardware stops here too. -/
  | memoryAccess (address : Word) (region : Option Region)
  /-- R373. Raised by `loadRom` before any step. Safe: the hardware stops here too. -/
  | mapperNotImplemented
  /-- R374. Raised by `loadBootstrap` before any step. Safe: the hardware stops here too. -/
  | romFileSize (expected actual : Nat)
deriving DecidableEq, Repr

/-- The state of the machine between steps (10_state.md). -/
structure State where
  /-- The eight 8-bit registers (R20). -/
  a : Byte
  b : Byte
  c : Byte
  d : Byte
  e : Byte
  h : Byte
  l : Byte
  /-- The flags Z, N, H, C in bits 7 to 4; bits 3 to 0 are always 0 (R26). -/
  f : Byte
  /-- The stack pointer (R25). -/
  sp : Word
  /-- The program counter (R24). -/
  pc : Word
  /-- The interrupt master enable, written by DI, EI and RETI and read by nothing (R29). -/
  ime : Bool
  /-- Set by HALT and STOP (R30). -/
  halted : Bool
  /-- The latched fault (R31). -/
  fault : Option FaultRecord
  /-- The M-clock, which grows by `cycles` (R32). -/
  mClock : Nat
  /-- The T-clock, which grows by `cycles / 4` (R32). -/
  tClock : Nat
  /-- The transient conditional-not-executed flag (R33). -/
  notTaken : Bool
  /-- While set, reads of 0x0000 to 0x00FF are answered by the BIOS (R34). -/
  biosMapped : Bool
  /-- The BIOS region, keyed 0x00 to 0xFF (R35). -/
  bios : Memory
  /-- ROM0, ROM1, VRAM, ERAM, WRAM, OAM and ZRAM, keyed by bus address (R35, R37). -/
  mem : Memory
  /-- The bytes written to 0xFF01, oldest first (R36). -/
  serialOut : List Byte
  /-- The GPU's registers, counters and frame (R37). -/
  gpu : Gpu
deriving DecidableEq, Repr

/-- The GPU after reset (R403). -/
def Gpu.reset : Gpu where
  mode := .oamScan
  line := 0
  modeClock := 0
  scrollX := 0
  scrollY := 0
  backgroundPalette := 0
  lcdControl := 0
  frameBuffer := List.replicate 144 (List.replicate 160 0)
  frameCount := 0

/-- The machine right after `reset()` (R400, R403): no image is loaded yet. -/
def State.reset : State where
  a := 0
  b := 0
  c := 0
  d := 0
  e := 0
  h := 0
  l := 0
  f := 0
  sp := 0
  pc := 0
  ime := false
  halted := false
  fault := none
  mClock := 0
  tClock := 0
  notTaken := false
  biosMapped := true
  bios := []
  mem := []
  serialOut := []
  gpu := Gpu.reset

/-- Why a step gives no next state (R18, R121). -/
inductive Fault where
  /-- Raised by `raise`, through any instruction, the fetch or a loader (R370): the record, and the machine as the raise
  left it (R381), with the record latched. A claim may rely on the record alone. Safe: the hardware stops here too. -/
  | raised (record : FaultRecord) (left : State)
  /-- Raised by `step` when a fault is latched: no step exists (R121). Safe. -/
  | noStepFaulted (record : FaultRecord)
  /-- Raised by `step` when `halted` is set: the machine is stuck, the third outcome of R18; it is none of the four
  fault kinds (R320, R321, R376). Safe. -/
  | noStepHalted
deriving DecidableEq, Repr

/-- Why an instruction has no meaning. -/
inductive Refusal where
  /-- Answered by `exec` for an instruction that has no meaning yet; no arm answers it now. Safe. -/
  | notModelled (mnemonic : String)
deriving DecidableEq, Repr

/-- The outcome of an instruction or a step. -/
abbrev Step := Host.Outcome State Fault Refusal

end Sys2Proof.Machine
end

