-- ==== Sys2Proof/Machine/Flags.lean ====
section
/-! DEFINITION. The flags of F and every flag computation the spec gives (41_alu_primitives.md): the four predicates as
isolated named functions (R8), the 16-bit add (R146), bit selection (R147), rotates and shifts (R148). -/

namespace Sys2Proof.Machine

open Sys2Proof

/-! ### The flags in F (R26) -/

/-- F.Z, bit 7. -/
def State.flagZ (s : State) : Bool := s.f.getLsbD 7

/-- F.N, bit 6. -/
def State.flagN (s : State) : Bool := s.f.getLsbD 6

/-- F.H, bit 5. -/
def State.flagH (s : State) : Bool := s.f.getLsbD 5

/-- F.C, bit 4. -/
def State.flagC (s : State) : Bool := s.f.getLsbD 4

/-- Write one bit of F by its mask; `none` leaves it unchanged. -/
def putFlag (mask : Byte) (v : Option Bool) (f : Byte) : Byte :=
  match v with
  | none => f
  | some true => f ||| mask
  | some false => f &&& ~~~mask

/-- Write the flags Z, N, H, C (masks 0x80, 0x40, 0x20, 0x10); `none` leaves a flag unchanged (R27), and the low
nibble is never touched (log entry 8). -/
def State.setFlags (s : State) (z n h c : Option Bool) : State :=
  { s with f := putFlag 0x10 c (putFlag 0x20 h (putFlag 0x40 n (putFlag 0x80 z s.f))) }

/-! ### The four 8-bit predicates (R140 to R144) -/

/-- `HalfAdd(a, b, cin)`: a carry out of bit 2 (R141). -/
def halfAdd (a b : Byte) (cin : Bool) : Bool :=
  decide ((a &&& 0x07).toNat + (b &&& 0x07).toNat + cin.toNat > 0x07)

/-- `CarryAdd(a, b, cin)` (R142). -/
def carryAdd (a b : Byte) (cin : Bool) : Bool :=
  decide (a.toNat + b.toNat + cin.toNat > 255)

/-- `BorrowAt(k, a, s)` (R143): the subtrahend `s` is an unreduced integer 0 to 256. -/
def borrowAt (k : Nat) (a : Byte) (s : Nat) : Bool :=
  a.getLsbD k && decide (s > a.toNat % 2 ^ (k + 1))

/-- `BorrowHalf(a, s)` (R143, R144). -/
def borrowHalf (a : Byte) (s : Nat) : Bool := borrowAt 3 a s

/-- `BorrowFull(a, s)` (R143, R144). -/
def borrowFull (a : Byte) (s : Nat) : Bool := borrowAt 7 a s

/-- The setting of the four predicates: the spec's normative ones (R8, log entry 4). -/
def flagPredicates : FlagPredicates where
  halfAdd := halfAdd
  carryAdd := carryAdd
  borrowHalf := borrowHalf
  borrowFull := borrowFull

/-- The flags of `LD HL,SP+e` and `ADD SP,e` (R193, R251), over given flag predicates: from the low byte of SP and the raw
byte. -/
def State.spRelFlags (p : FlagPredicates) (n : Byte) (s : State) : State :=
  s.setFlags (some false) (some false) (some (p.halfAdd (lo s.sp) n false)) (some (p.carryAdd (lo s.sp) n false))

/-! ### The 16-bit add (R146) -/

/-- `HalfAdd16(x, y)`: a carry out of bit 11. -/
def halfAdd16 (x y : Word) : Bool :=
  decide ((x &&& 0x0FFF).toNat + (y &&& 0x0FFF).toNat > 0x0FFF)

/-- `CarryAdd16(x, y)`: a carry out of bit 15. -/
def carryAdd16 (x y : Word) : Bool := decide (x.toNat + y.toNat > 0xFFFF)

/-! ### Bit selection (R147) -/

/-- The mask of a bit index under each setting of `BITNUM` (R147, R314). -/
def bitMaskOf (num : BitNum) (n : BitVec 3) : Byte :=
  match num with
  | .msb0 => 1#8 <<< (7 - n.toNat)
  | .lsb0 => 1#8 <<< n.toNat

/-- `BitMask(n)` (R147). -/
def bitMask (n : BitVec 3) : Byte := bitMaskOf Params.bitNum n

/-! ### Rotates and shifts (R148) -/

/-- A bit as a byte, 0 or 1. -/
def bitByte (b : Bool) : Byte := if b then 1 else 0

/-- `Rot(kind, v, cin)`: the result and the carry out (R148). -/
def rot (kind : RotKind) (v : Byte) (cin : Bool) : Byte × Bool :=
  match kind with
  | .rlc => ((v <<< 1) ||| bitByte (v.getLsbD 7), v.getLsbD 7)
  | .rrc => ((v >>> 1) ||| (bitByte (v.getLsbD 0) <<< 7), v.getLsbD 0)
  | .rl => ((v <<< 1) ||| bitByte cin, v.getLsbD 7)
  | .rr => ((v >>> 1) ||| (bitByte cin <<< 7), v.getLsbD 0)
  | .sla => (v <<< 1, v.getLsbD 7)
  | .sra => ((v >>> 1) ||| (v &&& 0x80), v.getLsbD 0)
  | .swap => (((v <<< 4) &&& 0xF0) ||| (v >>> 4), false)
  | .srl => (v >>> 1, v.getLsbD 0)

end Sys2Proof.Machine
end

