-- ==== Sys2Proof/Machine/Gpu.lean ====
section
/-! DEFINITION. The GraphicsTimingUnit (49_gpu_timing.md): the register window, the mode state machine, the frame render. -/

namespace Sys2Proof.Machine

open Sys2Proof

/-- The number of a mode (R335). -/
def GpuMode.number (m : GpuMode) : Nat :=
  match m with
  | .hBlank => 0
  | .vBlank => 1
  | .oamScan => 2
  | .vramRead => 3

/-- The budget of a mode, in units of `cycles / 4` (R338). -/
def GpuMode.budget (m : GpuMode) : Nat :=
  match m with
  | .hBlank => 204
  | .vBlank => 456
  | .oamScan => 80
  | .vramRead => 172

/-! ### The register window (R340) -/

/-- `GPU_REGS` at the spec's default (R11, R340): which register an address of the window reaches (log entry 4). -/
def gpuRegs (addr : Nat) : Option GpuReg :=
  if addr = 0xFF40 then some .lcdc
  else if addr = 0xFF41 then some .stat
  else if addr = 0xFF42 then some .scy
  else if addr = 0xFF43 then some .scx
  else if addr = 0xFF44 then some .ly
  else if addr = 0xFF47 then some .bgp
  else none

/-- What a read of a GPU register returns (R340). -/
def Gpu.readReg (g : Gpu) (r : GpuReg) : Byte :=
  match r with
  | .lcdc => g.lcdControl
  | .stat => BitVec.ofNat 8 g.mode.number
  | .scy => g.scrollY
  | .scx => g.scrollX
  | .ly => BitVec.ofNat 8 g.line
  | .bgp => g.backgroundPalette

/-- What a write to a GPU register does (R340): writes to STAT and LY are dropped. -/
def Gpu.writeReg (g : Gpu) (r : GpuReg) (v : Byte) : Gpu :=
  match r with
  | .lcdc => { g with lcdControl := v }
  | .stat => g
  | .scy => { g with scrollY := v }
  | .scx => { g with scrollX := v }
  | .ly => g
  | .bgp => { g with backgroundPalette := v }

/-! ### The frame render (R346 to R350) -/

/-- A byte of the GPU's own VRAM array, by offset (R347): not through the bus. -/
def vramByte (mem : Memory) (offset : Nat) : Byte := Memory.read mem (0x8000 + offset)

/-- The address of the background tile map: mask 0x08 of `lcdControl` (R346). -/
def mapBase (lcdControl : Byte) : Nat :=
  if lcdControl &&& 0x08 ≠ 0 then 0x9C00 else 0x9800

/-- `TileAddr(idx)`: mask 0x10 of `lcdControl` selects unsigned or signed tile numbers (R346). -/
def tileAddr (lcdControl : Byte) (idx : Byte) : Nat :=
  if lcdControl &&& 0x10 ≠ 0 then 0x8000 + 16 * idx.toNat
  else ((0x9000 : Int) + 16 * idx.toInt).toNat

/-- `canvas[row][column]` of R347: the pixel of the 256 by 256 background (R348, log entry 9). -/
def canvasPixel (mem : Memory) (lcdControl : Byte) (row column : Nat) : BitVec 2 :=
  let ty := row / 8
  let tx := column / 8
  let py := row % 8
  let px := column % 8
  let idx := vramByte mem (mapBase lcdControl - 0x8000 + 32 * ty + tx)
  let base := tileAddr lcdControl idx - 0x8000
  let lowB := vramByte mem (base + 2 * py)
  let highB := vramByte mem (base + 2 * py + 1)
  let i := 7 - px
  BitVec.ofNat 2 (2 * (highB.getLsbD i).toNat + (lowB.getLsbD i).toNat)

/-- `FrameBuffer[y][x]`: the window of the canvas at the scroll offsets, with wraparound (R347, R349). -/
def framePixel (mem : Memory) (g : Gpu) (y x : Nat) : BitVec 2 :=
  canvasPixel mem g.lcdControl ((g.scrollY.toNat + y) % 256) ((g.scrollX.toNat + x) % 256)

/-- `RenderFrame()` (R347): rewrites all 144 rows and sends one frame-ready event (R352). -/
def Gpu.renderFrame (mem : Memory) (g : Gpu) : Gpu :=
  { g with
    frameBuffer := (List.range 144).map fun y => (List.range 160).map fun x => framePixel mem g y x
    frameCount := g.frameCount + 1 }

/-! ### The mode state machine (R336, R337) -/

/-- `GpuAdvance(n)` (R336). -/
def Gpu.advance (g : Gpu) (n : Nat) : Gpu := { g with modeClock := g.modeClock + n }

/-- `GpuCheck()` (R337): at most one transition. -/
def Gpu.check (mem : Memory) (g : Gpu) : Gpu :=
  if g.modeClock ≥ g.mode.budget then
    match g.mode with
    | .oamScan => { g with modeClock := 0, mode := .vramRead }
    | .vramRead => { g with modeClock := 0, mode := .hBlank }
    | .hBlank =>
      let line := g.line + 1
      if line = 143 then
        Gpu.renderFrame mem { g with modeClock := 0, line := line, mode := .vBlank }
      else { g with modeClock := 0, line := line, mode := .oamScan }
    | .vBlank =>
      let line := g.line + 1
      if line > 153 then { g with modeClock := 0, line := 0, mode := .oamScan }
      else { g with modeClock := 0, line := line }
  else g

end Sys2Proof.Machine
end

