-- ==== Sys2Proof/Machine/Settings.lean ====
section
/-! DEFINITION. The settings the model runs with: every parameter at the value the spec states as default or normative (log
entry 4). Whatever depends on a parameter takes a `Settings`, this one unless another is given, so that the whole machine
also runs with any other (`stepIn`). -/

namespace Sys2Proof.Machine

open Sys2Proof

/-- The spec's settings (R6 to R12, R14). -/
def settings : Settings where
  implSets := implSets
  flagPredicates := flagPredicates
  bitNum := Params.bitNum
  accRotZ := Params.accRotZ
  romWrite := Params.romWrite
  gpuRegs := gpuRegs
  serialCtrlRead := Config.serialCtrlRead
  cost := cost

end Sys2Proof.Machine
end

