-- ==== Sys2Proof/Machine/Ops.lean ====
section
/-! DEFINITION. The named operations every instruction is written with: registers and pairs, raising a fault, the bus and its
address decode, the fetch of one byte, the stack. -/

namespace Sys2Proof.Machine

open Sys2Proof

/-! ### Registers (R20 to R25) -/

/-- Read a register of the `r` coding (R23). -/
def State.reg (s : State) (r : Reg8) : Byte :=
  match r with
  | .b => s.b
  | .c => s.c
  | .d => s.d
  | .e => s.e
  | .h => s.h
  | .l => s.l
  | .a => s.a

/-- Write a register of the `r` coding (R21). -/
def State.setReg (s : State) (r : Reg8) (v : Byte) : State :=
  match r with
  | .b => { s with b := v }
  | .c => { s with c := v }
  | .d => { s with d := v }
  | .e => { s with e := v }
  | .h => { s with h := v }
  | .l => { s with l := v }
  | .a => { s with a := v }

/-- The pair BC (R22). -/
def State.bc (s : State) : Word := word s.b s.c

/-- The pair DE (R22). -/
def State.de (s : State) : Word := word s.d s.e

/-- The pair HL (R22). -/
def State.hl (s : State) : Word := word s.h s.l

/-- The pair AF (R22). -/
def State.af (s : State) : Word := word s.a s.f

/-- `HL <- w` (R17, R22). -/
def State.setHl (s : State) (w : Word) : State := { s with h := hi w, l := lo w }

/-- Read a pair or SP of the `rp` coding (R95). -/
def State.pair (s : State) (p : Pair) : Word :=
  match p with
  | .bc => s.bc
  | .de => s.de
  | .hl => s.hl
  | .sp => s.sp

/-- Write a pair or SP of the `rp` coding (R22, R95). -/
def State.setPair (s : State) (p : Pair) (w : Word) : State :=
  match p with
  | .bc => { s with b := hi w, c := lo w }
  | .de => { s with d := hi w, e := lo w }
  | .hl => s.setHl w
  | .sp => { s with sp := w }

/-- Read a pair of the `rp2` coding (R95, R194). -/
def State.stackPair (s : State) (p : StackPair) : Word :=
  match p with
  | .bc => s.bc
  | .de => s.de
  | .hl => s.hl
  | .af => s.af

/-- Write a pair of the `rp2` coding; a write of AF keeps the low nibble of F at 0 (R22, R196). -/
def State.setStackPair (s : State) (p : StackPair) (w : Word) : State :=
  match p with
  | .bc => { s with b := hi w, c := lo w }
  | .de => { s with d := hi w, e := lo w }
  | .hl => s.setHl w
  | .af => { s with a := hi w, f := lo w &&& 0xF0 }

/-! ### Taking a fault (R370) -/

/-- What a part of a step gives: a value and the state after it, or a raise with the state it left (R130, R381). -/
inductive Res (α : Type) where
  | ok (value : α) (s : State)
  | raised (record : FaultRecord) (left : State)
deriving DecidableEq, Repr

/-- `raise` (R370): latches the record and ends the operation; no register is saved and PC is not redirected (R379).
There is no return from it (R380). -/
def raise (record : FaultRecord) (s : State) : Res α := .raised record { s with fault := some record }

/-- One part of a step after another: a raise ends the step where it happens (R130). -/
def Res.andThen (r : Res α) (next : α → State → Res β) : Res β :=
  match r with
  | .ok v s => next v s
  | .raised record left => .raised record left

/-- A part that only changes the state. -/
def done (s : State) : Res Unit := .ok () s

/-- The outcome of a whole effect (R18). -/
def Res.outcome (r : Res Unit) : Step :=
  match r with
  | .ok _ s => .next s
  | .raised record left => .fault (.raised record left)

/-! ### Regions (R35, R37, R73) -/

/-- The base address of a region. -/
def Region.base (r : Region) : Nat :=
  match r with
  | .bios => 0x0000
  | .rom0 => 0x0000
  | .rom1 => 0x4000
  | .vram => 0x8000
  | .eram => 0xA000
  | .wram => 0xC000
  | .oam => 0xFE00
  | .zram => 0xFF80

/-- The length of a region in bytes. -/
def Region.length (r : Region) : Nat :=
  match r with
  | .bios => 256
  | .rom0 => 16384
  | .rom1 => 16384
  | .vram => 8192
  | .eram => 8192
  | .wram => 8192
  | .oam => 160
  | .zram => 128

/-- The regions that are read-only to the CPU (R35, R60). -/
def Region.readOnly (r : Region) : Bool :=
  match r with
  | .bios => true
  | .rom0 => true
  | .rom1 => true
  | .vram => false
  | .eram => false
  | .wram => false
  | .oam => false
  | .zram => false

/-- The bounds check of every region: `address - base` lies in `[0, length)` (R73). -/
def Region.holds (r : Region) (address : Nat) : Bool :=
  decide (r.base ≤ address) && decide (address - r.base < r.length)

/-- The memory a region's bytes stand in. -/
def State.regionMem (s : State) (r : Region) : Memory :=
  match r with
  | .bios => s.bios
  | .rom0 => s.mem
  | .rom1 => s.mem
  | .vram => s.mem
  | .eram => s.mem
  | .wram => s.mem
  | .oam => s.mem
  | .zram => s.mem

/-- The state with a byte of a region changed. -/
def State.setRegionByte (s : State) (r : Region) (address : Nat) (v : Byte) : State :=
  match r with
  | .bios => { s with bios := Memory.write s.bios address v }
  | .rom0 => { s with mem := Memory.write s.mem address v }
  | .rom1 => { s with mem := Memory.write s.mem address v }
  | .vram => { s with mem := Memory.write s.mem address v }
  | .eram => { s with mem := Memory.write s.mem address v }
  | .wram => { s with mem := Memory.write s.mem address v }
  | .oam => { s with mem := Memory.write s.mem address v }
  | .zram => { s with mem := Memory.write s.mem address v }

/-! ### The bus (R50 to R72) -/

/-- What answers a bus address (R54, R55). -/
inductive Target where
  /-- A stored byte: the region and the bus address of the byte, after the echo redirect (R62). -/
  | stored (region : Region) (address : Nat)
  /-- 0xFEA0 to 0xFEFF (R64). -/
  | unusable
  /-- 0xFF00 (R70). -/
  | inputPort
  /-- 0xFF01 (R67). -/
  | serialData
  /-- 0xFF02 (R68). -/
  | serialControl
  /-- 0xFF50 (R69). -/
  | biosLatch
  /-- A register of the GPU window (R71, R340). -/
  | gpuReg (r : GpuReg)
  /-- Undefined I/O (R72). -/
  | undefinedIo
deriving DecidableEq, Repr

/-- The address decode: the first matching row of R52 and R53 for the address `a` (R54). -/
def busDecodeAt (biosMapped : Bool) (a : Nat) (cfg : Settings := settings) : Target :=
  if a ≤ 0x00FF ∧ biosMapped = true then .stored .bios a
  else if a ≤ 0x3FFF then .stored .rom0 a
  else if a ≤ 0x7FFF then .stored .rom1 a
  else if a ≤ 0x9FFF then .stored .vram a
  else if a ≤ 0xBFFF then .stored .eram a
  else if a ≤ 0xDFFF then .stored .wram a
  else if a ≤ 0xFDFF then .stored .wram (a - 0x2000)
  else if a ≤ 0xFE9F then .stored .oam a
  else if a ≤ 0xFEFF then .unusable
  else if a ≥ 0xFF80 then .stored .zram a
  else if a = 0xFF00 then .inputPort
  else if a = 0xFF01 then .serialData
  else if a = 0xFF02 then .serialControl
  else if a = 0xFF50 then .biosLatch
  else if 0xFF40 ≤ a ∧ a ≤ 0xFF7F then
    match cfg.gpuRegs a with
    | some r => .gpuReg r
    | none => .undefinedIo
  else .undefinedIo

/-- What answers a bus address. -/
def busDecode (biosMapped : Bool) (addr : Word) (cfg : Settings := settings) : Target :=
  busDecodeAt biosMapped addr.toNat cfg

/-- `MemRead(addr, 1)` (R52): the byte, or the fault record; it changes no state. -/
def memRead (s : State) (addr : Word) (cfg : Settings := settings) : Except FaultRecord Byte :=
  match busDecode s.biosMapped addr cfg with
  | .stored region address =>
    if region.holds address then .ok (Memory.read (s.regionMem region) address)
    else .error (.memoryAccess addr (some region))
  | .unusable => .ok 0x00
  | .inputPort => .ok 0x00
  | .serialData => .error (.memoryAccess addr none)
  | .serialControl => .ok cfg.serialCtrlRead
  | .biosLatch => .error (.memoryAccess addr none)
  | .gpuReg r => .ok (s.gpu.readReg r)
  | .undefinedIo => .error (.memoryAccess addr none)

/-- `MemWrite(addr, 1, v)` (R53): the state after it, or the fault record. -/
def memWrite (s : State) (addr : Word) (v : Byte) (cfg : Settings := settings) : Except FaultRecord State :=
  match busDecode s.biosMapped addr cfg with
  | .stored region address =>
    if region.readOnly then
      match cfg.romWrite with
      | .drop => .ok s
      | .fault => .error (.memoryAccess addr none)
    else if region.holds address then .ok (s.setRegionByte region address v)
    else .error (.memoryAccess addr (some region))
  | .unusable => .ok s
  | .inputPort => .ok s
  | .serialData => .ok { s with serialOut := s.serialOut ++ [v] }
  | .serialControl => .ok s
  | .biosLatch => if v = 0x01 then .ok { s with biosMapped := false } else .ok s
  | .gpuReg r => .ok { s with gpu := s.gpu.writeReg r v }
  | .undefinedIo => .error (.memoryAccess addr none)

/-- A bus read as a part of a step. -/
def readByte (addr : Word) (s : State) (cfg : Settings := settings) : Res Byte :=
  match memRead s addr cfg with
  | .ok v => .ok v s
  | .error record => raise record s

/-- A bus write as a part of a step. -/
def writeByte (addr : Word) (v : Byte) (s : State) (cfg : Settings := settings) : Res Unit :=
  match memWrite s addr v cfg with
  | .ok s' => done s'
  | .error record => raise record s

/-- `Fetch8()` (R17, R24): the byte at PC, PC moved past it. -/
def fetch8 (s : State) (cfg : Settings := settings) : Res Byte :=
  (readByte s.pc s cfg).andThen fun v s' => .ok v { s' with pc := s'.pc + 1 }

/-! ### The stack (R197, R198) -/

/-- `Push16(w)` (R197): the high byte first, SP decremented before each byte. -/
def push16 (w : Word) (s : State) (cfg : Settings := settings) : Res Unit :=
  let s1 := { s with sp := s.sp - 1 }
  (writeByte s1.sp (hi w) s1 cfg).andThen fun _ s2 =>
    let s3 := { s2 with sp := s2.sp - 1 }
    writeByte s3.sp (lo w) s3 cfg

/-- `Pop16()` (R198): the low byte first, SP incremented after each byte. -/
def pop16 (s : State) (cfg : Settings := settings) : Res Word :=
  (readByte s.sp s cfg).andThen fun low s1 =>
    let s2 := { s1 with sp := s1.sp + 1 }
    (readByte s2.sp s2 cfg).andThen fun high s3 =>
      .ok (word high low) { s3 with sp := s3.sp + 1 }

/-- Put bytes into the cells that answer reads at rising addresses; an address that no stored byte answers is passed
over. Used to place an instruction where the next fetch reads it (log entry 7). -/
def placeBytes (addr : Word) (bytes : List Byte) (s : State) : State :=
  match bytes with
  | [] => s
  | v :: rest =>
    let s' :=
      match busDecode s.biosMapped addr with
      | .stored region address => s.setRegionByte region address v
      | .unusable => s
      | .inputPort => s
      | .serialData => s
      | .serialControl => s
      | .biosLatch => s
      | .gpuReg _ => s
      | .undefinedIo => s
    placeBytes (addr + 1) rest s'

end Sys2Proof.Machine
end

