-- ==== Sys2Proof/Machine/Operands.lean ====
section
/-! DEFINITION. The operand forms (R94, R95, R238, R312): an update of the state by a source byte that is a register, an
immediate or a memory byte; a read-modify-write of a register or of the byte at HL; a store; the I/O address of LDH;
the conditions. By the time a meaning runs, PC is past the instruction's last byte (R24, log entry 3). -/

namespace Sys2Proof.Machine

open Sys2Proof

/-- A source operand that is a register. -/
def fromReg (update : Byte → State → State) (r : Reg8) (s : State) : Step := .next (update (s.reg r) s)

/-- A source operand that is an immediate byte. -/
def fromImm (update : Byte → State → State) (n : Byte) (s : State) : Step := .next (update n s)

/-- A source operand that is the memory byte at an address. -/
def fromMem (update : Byte → State → State) (addr : Word) (s : State) (cfg : Settings := settings) : Step :=
  ((readByte addr s cfg).andThen fun v s' => done (update v s')).outcome

/-- A read-modify-write of a register: `change` gives the result and the state with the flags written. -/
def modifyReg (change : Byte → State → Byte × State) (r : Reg8) (s : State) : Step :=
  let (res, s') := change (s.reg r) s
  .next (s'.setReg r res)

/-- A read-modify-write of the byte at HL: the read, the flags, then the store (R77, R235, R312). -/
def modifyAtHl (change : Byte → State → Byte × State) (s : State) (cfg : Settings := settings) : Step :=
  ((readByte s.hl s cfg).andThen fun v s1 =>
    let (res, s2) := change v s1
    writeByte s2.hl res s2 cfg).outcome

/-- A store of one byte. -/
def storeMem (addr : Word) (v : Byte) (s : State) (cfg : Settings := settings) : Step :=
  (writeByte addr v s cfg).outcome

/-- The address `0xFF00 + n` of LDH and LD (C) (R174 to R177). -/
def ioAddr (n : Byte) : Word := word 0xFF n

/-- `Cond(cc)` (R277). -/
def condHolds (cc : Cond) (s : State) : Bool :=
  match cc with
  | .nz => !s.flagZ
  | .z => s.flagZ
  | .nc => !s.flagC
  | .c => s.flagC

end Sys2Proof.Machine
end

