-- ==== Sys2Proof/Machine/Alu16.lean ====
section
/-! DEFINITION. 16-bit arithmetic, accumulator rotates, DAA, CPL, SCF, CCF, NOP (45_alu16_misc.md, R250 to R264). -/

namespace Sys2Proof.Machine

open Sys2Proof

/-- `ADD HL,rp` (R250): Z is unchanged. -/
def addHl (p : Pair) (s : State) : Step :=
  let x := s.hl
  let y := s.pair p
  .next ((s.setFlags none (some false) (some (halfAdd16 x y)) (some (carryAdd16 x y))).setHl (x + y))

/-- `ADD SP,e` (R251): the flags from the low byte of SP and the raw byte. -/
def addSpRel (n : Byte) (s : State) (cfg : Settings := settings) : Step :=
  .next { s.spRelFlags cfg.flagPredicates n with sp := s.sp + sext8 n }

/-- What an accumulator rotate writes to Z under each setting of `ACC_ROT_Z` (R9, R264). -/
def accRotFlagZ (setting : AccRotZ) (res : Byte) : Bool :=
  match setting with
  | .clear => false
  | .result => res == 0

/-- The accumulator rotates (R264), over a given setting of `ACC_ROT_Z`. -/
def rotateAIn (setting : AccRotZ) (kind : RotKind) (s : State) : State :=
  let (res, cout) := rot kind s.a s.flagC
  (s.setFlags (some (accRotFlagZ setting res)) (some false) (some false) (some cout)).setReg .a res

/-- The accumulator rotates at the model's setting. -/
def rotateA (kind : RotKind) (s : State) : State := rotateAIn Params.accRotZ kind s

/-- DAA (R258). -/
def decimalAdjust (s : State) : State :=
  let high := s.flagC || (!s.flagN && decide (s.a.toNat > 0x99))
  let low := s.flagH || (!s.flagN && decide ((s.a &&& 0x0F).toNat > 0x09))
  let adj : Byte := (if high then 0x60 else 0x00) + (if low then 0x06 else 0x00)
  let res := if s.flagN then s.a - adj else s.a + adj
  (s.setFlags (some (res == 0)) none (some false) (some high)).setReg .a res

/-- NOP (R262). -/
def execNop (s : State) : Step := .next s

/-- INC BC (R252). -/
def execIncBc (s : State) : Step := .next (s.setPair .bc (s.pair .bc + 1))

/-- RLCA (R254). -/
def execRlca (s : State) (cfg : Settings := settings) : Step := .next (rotateAIn cfg.accRotZ .rlc s)

/-- ADD HL,BC (R250). -/
def execAddHlBc (s : State) : Step := addHl .bc s

/-- DEC BC (R253). -/
def execDecBc (s : State) : Step := .next (s.setPair .bc (s.pair .bc - 1))

/-- RRCA (R255). -/
def execRrca (s : State) (cfg : Settings := settings) : Step := .next (rotateAIn cfg.accRotZ .rrc s)

/-- INC DE (R252). -/
def execIncDe (s : State) : Step := .next (s.setPair .de (s.pair .de + 1))

/-- RLA (R256). -/
def execRla (s : State) (cfg : Settings := settings) : Step := .next (rotateAIn cfg.accRotZ .rl s)

/-- ADD HL,DE (R250). -/
def execAddHlDe (s : State) : Step := addHl .de s

/-- DEC DE (R253). -/
def execDecDe (s : State) : Step := .next (s.setPair .de (s.pair .de - 1))

/-- RRA (R257). -/
def execRra (s : State) (cfg : Settings := settings) : Step := .next (rotateAIn cfg.accRotZ .rr s)

/-- INC HL (R252). -/
def execIncHl (s : State) : Step := .next (s.setPair .hl (s.pair .hl + 1))

/-- DAA (R258). -/
def execDaa (s : State) : Step := .next (decimalAdjust s)

/-- ADD HL,HL (R250). -/
def execAddHlHl (s : State) : Step := addHl .hl s

/-- DEC HL (R253). -/
def execDecHl (s : State) : Step := .next (s.setPair .hl (s.pair .hl - 1))

/-- CPL (R259). -/
def execCpl (s : State) : Step := .next ({ s with a := s.a ^^^ 0xFF }.setFlags none (some true) (some true) none)

/-- INC SP (R252). -/
def execIncSp (s : State) : Step := .next (s.setPair .sp (s.pair .sp + 1))

/-- SCF (R260). -/
def execScf (s : State) : Step := .next (s.setFlags none (some false) (some false) (some true))

/-- ADD HL,SP (R250). -/
def execAddHlSp (s : State) : Step := addHl .sp s

/-- DEC SP (R253). -/
def execDecSp (s : State) : Step := .next (s.setPair .sp (s.pair .sp - 1))

/-- CCF (R261). -/
def execCcf (s : State) : Step := .next (s.setFlags none (some false) (some false) (some (!s.flagC)))

/-- ADD SP,e (R251). -/
def execAddSpRel (n : Byte) (s : State) (cfg : Settings := settings) : Step := addSpRel n s cfg

end Sys2Proof.Machine
end

