-- ==== Sys2Proof/Machine/Alu8.lean ====
section
/-! DEFINITION. 8-bit arithmetic and logic (44_alu8.md, R210 to R238), with the predicates of 41_alu_primitives.md. -/

namespace Sys2Proof.Machine

open Sys2Proof

/-- ADD (R210), over given flag predicates (R8). -/
def addIn (p : FlagPredicates) (x : Byte) (s : State) : State :=
  let res := s.a + x
  (s.setFlags (some (res == 0)) (some false) (some (p.halfAdd s.a x false)) (some (p.carryAdd s.a x false))).setReg .a res

/-- ADC (R213), over given flag predicates: the carry-in is F.C before the instruction. -/
def adcIn (p : FlagPredicates) (x : Byte) (s : State) : State :=
  let c := s.flagC
  let res := s.a + x + bitByte c
  (s.setFlags (some (res == 0)) (some false) (some (p.halfAdd s.a x c)) (some (p.carryAdd s.a x c))).setReg .a res

/-- The flags of SUB and CP (R216, R231), over given flag predicates. -/
def subFlagsIn (p : FlagPredicates) (x : Byte) (s : State) : State :=
  s.setFlags (some (s.a - x == 0)) (some true) (some (p.borrowHalf s.a x.toNat)) (some (p.borrowFull s.a x.toNat))

/-- SBC (R219), over given flag predicates: the subtrahend `x + F.C` is not reduced. -/
def sbcIn (p : FlagPredicates) (x : Byte) (s : State) : State :=
  let c := s.flagC
  let sub := x.toNat + c.toNat
  let res := s.a - x - bitByte c
  (s.setFlags (some (res == 0)) (some true) (some (p.borrowHalf s.a sub)) (some (p.borrowFull s.a sub))).setReg .a res

/-- SUB (R216), over given flag predicates. -/
def subIn (p : FlagPredicates) (x : Byte) (s : State) : State := (subFlagsIn p x s).setReg .a (s.a - x)

/-- INC (R234), over given flag predicates: C is unchanged. -/
def incIn (p : FlagPredicates) (v : Byte) (s : State) : Byte × State :=
  let res := v + 1
  (res, s.setFlags (some (res == 0)) (some false) (some (p.halfAdd v 1 false)) none)

/-- DEC (R236), over given flag predicates: C is unchanged. -/
def decIn (p : FlagPredicates) (v : Byte) (s : State) : Byte × State :=
  let res := v - 1
  (res, s.setFlags (some (res == 0)) (some true) (some (p.borrowHalf v 1)) none)

/-- ADD (R210). -/
def addA (x : Byte) (s : State) : State := addIn flagPredicates x s

/-- ADC (R213). -/
def adcA (x : Byte) (s : State) : State := adcIn flagPredicates x s

/-- The flags of SUB and CP (R216, R231). -/
def subFlags (x : Byte) (s : State) : State := subFlagsIn flagPredicates x s

/-- SUB (R216). -/
def subA (x : Byte) (s : State) : State := subIn flagPredicates x s

/-- SBC (R219). -/
def sbcA (x : Byte) (s : State) : State := sbcIn flagPredicates x s

/-- AND (R222): H is set, C cleared. -/
def andA (x : Byte) (s : State) : State :=
  let res := s.a &&& x
  (s.setFlags (some (res == 0)) (some false) (some true) (some false)).setReg .a res

/-- XOR (R225). -/
def xorA (x : Byte) (s : State) : State :=
  let res := s.a ^^^ x
  (s.setFlags (some (res == 0)) (some false) (some false) (some false)).setReg .a res

/-- OR (R228). -/
def orA (x : Byte) (s : State) : State :=
  let res := s.a ||| x
  (s.setFlags (some (res == 0)) (some false) (some false) (some false)).setReg .a res

/-- CP (R231): SUB without the write to A. -/
def cpA (x : Byte) (s : State) : State := subFlags x s

/-- INC (R234). -/
def incByte (v : Byte) (s : State) : Byte × State := incIn flagPredicates v s

/-- DEC (R236). -/
def decByte (v : Byte) (s : State) : Byte × State := decIn flagPredicates v s

/-- INC B (R234). -/
def execIncB (s : State) (cfg : Settings := settings) : Step := modifyReg (incIn cfg.flagPredicates) .b s

/-- DEC B (R236). -/
def execDecB (s : State) (cfg : Settings := settings) : Step := modifyReg (decIn cfg.flagPredicates) .b s

/-- INC C (R234). -/
def execIncC (s : State) (cfg : Settings := settings) : Step := modifyReg (incIn cfg.flagPredicates) .c s

/-- DEC C (R236). -/
def execDecC (s : State) (cfg : Settings := settings) : Step := modifyReg (decIn cfg.flagPredicates) .c s

/-- INC D (R234). -/
def execIncD (s : State) (cfg : Settings := settings) : Step := modifyReg (incIn cfg.flagPredicates) .d s

/-- DEC D (R236). -/
def execDecD (s : State) (cfg : Settings := settings) : Step := modifyReg (decIn cfg.flagPredicates) .d s

/-- INC E (R234). -/
def execIncE (s : State) (cfg : Settings := settings) : Step := modifyReg (incIn cfg.flagPredicates) .e s

/-- DEC E (R236). -/
def execDecE (s : State) (cfg : Settings := settings) : Step := modifyReg (decIn cfg.flagPredicates) .e s

/-- INC H (R234). -/
def execIncH (s : State) (cfg : Settings := settings) : Step := modifyReg (incIn cfg.flagPredicates) .h s

/-- DEC H (R236). -/
def execDecH (s : State) (cfg : Settings := settings) : Step := modifyReg (decIn cfg.flagPredicates) .h s

/-- INC L (R234). -/
def execIncL (s : State) (cfg : Settings := settings) : Step := modifyReg (incIn cfg.flagPredicates) .l s

/-- DEC L (R236). -/
def execDecL (s : State) (cfg : Settings := settings) : Step := modifyReg (decIn cfg.flagPredicates) .l s

/-- INC (HL) (R235). -/
def execIncAtHl (s : State) (cfg : Settings := settings) : Step := modifyAtHl (incIn cfg.flagPredicates) s cfg

/-- DEC (HL) (R237). -/
def execDecAtHl (s : State) (cfg : Settings := settings) : Step := modifyAtHl (decIn cfg.flagPredicates) s cfg

/-- INC A (R234). -/
def execIncA (s : State) (cfg : Settings := settings) : Step := modifyReg (incIn cfg.flagPredicates) .a s

/-- DEC A (R236). -/
def execDecA (s : State) (cfg : Settings := settings) : Step := modifyReg (decIn cfg.flagPredicates) .a s

/-- ADD A,B (R210). -/
def execAddAB (s : State) (cfg : Settings := settings) : Step := fromReg (addIn cfg.flagPredicates) .b s

/-- ADD A,C (R210). -/
def execAddAC (s : State) (cfg : Settings := settings) : Step := fromReg (addIn cfg.flagPredicates) .c s

/-- ADD A,D (R210). -/
def execAddAD (s : State) (cfg : Settings := settings) : Step := fromReg (addIn cfg.flagPredicates) .d s

/-- ADD A,E (R210). -/
def execAddAE (s : State) (cfg : Settings := settings) : Step := fromReg (addIn cfg.flagPredicates) .e s

/-- ADD A,H (R210). -/
def execAddAH (s : State) (cfg : Settings := settings) : Step := fromReg (addIn cfg.flagPredicates) .h s

/-- ADD A,L (R210). -/
def execAddAL (s : State) (cfg : Settings := settings) : Step := fromReg (addIn cfg.flagPredicates) .l s

/-- ADD A,(HL) (R211). -/
def execAddAAtHl (s : State) (cfg : Settings := settings) : Step := fromMem (addIn cfg.flagPredicates) s.hl s cfg

/-- ADD A,A (R210). -/
def execAddAA (s : State) (cfg : Settings := settings) : Step := fromReg (addIn cfg.flagPredicates) .a s

/-- ADC A,B (R213). -/
def execAdcAB (s : State) (cfg : Settings := settings) : Step := fromReg (adcIn cfg.flagPredicates) .b s

/-- ADC A,C (R213). -/
def execAdcAC (s : State) (cfg : Settings := settings) : Step := fromReg (adcIn cfg.flagPredicates) .c s

/-- ADC A,D (R213). -/
def execAdcAD (s : State) (cfg : Settings := settings) : Step := fromReg (adcIn cfg.flagPredicates) .d s

/-- ADC A,E (R213). -/
def execAdcAE (s : State) (cfg : Settings := settings) : Step := fromReg (adcIn cfg.flagPredicates) .e s

/-- ADC A,H (R213). -/
def execAdcAH (s : State) (cfg : Settings := settings) : Step := fromReg (adcIn cfg.flagPredicates) .h s

/-- ADC A,L (R213). -/
def execAdcAL (s : State) (cfg : Settings := settings) : Step := fromReg (adcIn cfg.flagPredicates) .l s

/-- ADC A,(HL) (R214). -/
def execAdcAAtHl (s : State) (cfg : Settings := settings) : Step := fromMem (adcIn cfg.flagPredicates) s.hl s cfg

/-- ADC A,A (R213). -/
def execAdcAA (s : State) (cfg : Settings := settings) : Step := fromReg (adcIn cfg.flagPredicates) .a s

/-- SUB A,B (R216). -/
def execSubAB (s : State) (cfg : Settings := settings) : Step := fromReg (subIn cfg.flagPredicates) .b s

/-- SUB A,C (R216). -/
def execSubAC (s : State) (cfg : Settings := settings) : Step := fromReg (subIn cfg.flagPredicates) .c s

/-- SUB A,D (R216). -/
def execSubAD (s : State) (cfg : Settings := settings) : Step := fromReg (subIn cfg.flagPredicates) .d s

/-- SUB A,E (R216). -/
def execSubAE (s : State) (cfg : Settings := settings) : Step := fromReg (subIn cfg.flagPredicates) .e s

/-- SUB A,H (R216). -/
def execSubAH (s : State) (cfg : Settings := settings) : Step := fromReg (subIn cfg.flagPredicates) .h s

/-- SUB A,L (R216). -/
def execSubAL (s : State) (cfg : Settings := settings) : Step := fromReg (subIn cfg.flagPredicates) .l s

/-- SUB A,(HL) (R217). -/
def execSubAAtHl (s : State) (cfg : Settings := settings) : Step := fromMem (subIn cfg.flagPredicates) s.hl s cfg

/-- SUB A,A (R216). -/
def execSubAA (s : State) (cfg : Settings := settings) : Step := fromReg (subIn cfg.flagPredicates) .a s

/-- SBC A,B (R219). -/
def execSbcAB (s : State) (cfg : Settings := settings) : Step := fromReg (sbcIn cfg.flagPredicates) .b s

/-- SBC A,C (R219). -/
def execSbcAC (s : State) (cfg : Settings := settings) : Step := fromReg (sbcIn cfg.flagPredicates) .c s

/-- SBC A,D (R219). -/
def execSbcAD (s : State) (cfg : Settings := settings) : Step := fromReg (sbcIn cfg.flagPredicates) .d s

/-- SBC A,E (R219). -/
def execSbcAE (s : State) (cfg : Settings := settings) : Step := fromReg (sbcIn cfg.flagPredicates) .e s

/-- SBC A,H (R219). -/
def execSbcAH (s : State) (cfg : Settings := settings) : Step := fromReg (sbcIn cfg.flagPredicates) .h s

/-- SBC A,L (R219). -/
def execSbcAL (s : State) (cfg : Settings := settings) : Step := fromReg (sbcIn cfg.flagPredicates) .l s

/-- SBC A,(HL) (R220). -/
def execSbcAAtHl (s : State) (cfg : Settings := settings) : Step := fromMem (sbcIn cfg.flagPredicates) s.hl s cfg

/-- SBC A,A (R219). -/
def execSbcAA (s : State) (cfg : Settings := settings) : Step := fromReg (sbcIn cfg.flagPredicates) .a s

/-- AND A,B (R222). -/
def execAndAB (s : State) : Step := fromReg andA .b s

/-- AND A,C (R222). -/
def execAndAC (s : State) : Step := fromReg andA .c s

/-- AND A,D (R222). -/
def execAndAD (s : State) : Step := fromReg andA .d s

/-- AND A,E (R222). -/
def execAndAE (s : State) : Step := fromReg andA .e s

/-- AND A,H (R222). -/
def execAndAH (s : State) : Step := fromReg andA .h s

/-- AND A,L (R222). -/
def execAndAL (s : State) : Step := fromReg andA .l s

/-- AND A,(HL) (R223). -/
def execAndAAtHl (s : State) (cfg : Settings := settings) : Step := fromMem andA s.hl s cfg

/-- AND A,A (R222). -/
def execAndAA (s : State) : Step := fromReg andA .a s

/-- XOR A,B (R225). -/
def execXorAB (s : State) : Step := fromReg xorA .b s

/-- XOR A,C (R225). -/
def execXorAC (s : State) : Step := fromReg xorA .c s

/-- XOR A,D (R225). -/
def execXorAD (s : State) : Step := fromReg xorA .d s

/-- XOR A,E (R225). -/
def execXorAE (s : State) : Step := fromReg xorA .e s

/-- XOR A,H (R225). -/
def execXorAH (s : State) : Step := fromReg xorA .h s

/-- XOR A,L (R225). -/
def execXorAL (s : State) : Step := fromReg xorA .l s

/-- XOR A,(HL) (R226). -/
def execXorAAtHl (s : State) (cfg : Settings := settings) : Step := fromMem xorA s.hl s cfg

/-- XOR A,A (R225). -/
def execXorAA (s : State) : Step := fromReg xorA .a s

/-- OR A,B (R228). -/
def execOrAB (s : State) : Step := fromReg orA .b s

/-- OR A,C (R228). -/
def execOrAC (s : State) : Step := fromReg orA .c s

/-- OR A,D (R228). -/
def execOrAD (s : State) : Step := fromReg orA .d s

/-- OR A,E (R228). -/
def execOrAE (s : State) : Step := fromReg orA .e s

/-- OR A,H (R228). -/
def execOrAH (s : State) : Step := fromReg orA .h s

/-- OR A,L (R228). -/
def execOrAL (s : State) : Step := fromReg orA .l s

/-- OR A,(HL) (R229). -/
def execOrAAtHl (s : State) (cfg : Settings := settings) : Step := fromMem orA s.hl s cfg

/-- OR A,A (R228). -/
def execOrAA (s : State) : Step := fromReg orA .a s

/-- CP A,B (R231). -/
def execCpAB (s : State) (cfg : Settings := settings) : Step := fromReg (subFlagsIn cfg.flagPredicates) .b s

/-- CP A,C (R231). -/
def execCpAC (s : State) (cfg : Settings := settings) : Step := fromReg (subFlagsIn cfg.flagPredicates) .c s

/-- CP A,D (R231). -/
def execCpAD (s : State) (cfg : Settings := settings) : Step := fromReg (subFlagsIn cfg.flagPredicates) .d s

/-- CP A,E (R231). -/
def execCpAE (s : State) (cfg : Settings := settings) : Step := fromReg (subFlagsIn cfg.flagPredicates) .e s

/-- CP A,H (R231). -/
def execCpAH (s : State) (cfg : Settings := settings) : Step := fromReg (subFlagsIn cfg.flagPredicates) .h s

/-- CP A,L (R231). -/
def execCpAL (s : State) (cfg : Settings := settings) : Step := fromReg (subFlagsIn cfg.flagPredicates) .l s

/-- CP A,(HL) (R232). -/
def execCpAAtHl (s : State) (cfg : Settings := settings) : Step := fromMem (subFlagsIn cfg.flagPredicates) s.hl s cfg

/-- CP A,A (R231). -/
def execCpAA (s : State) (cfg : Settings := settings) : Step := fromReg (subFlagsIn cfg.flagPredicates) .a s

/-- ADD A,n (R212). -/
def execAddAImm (n : Byte) (s : State) (cfg : Settings := settings) : Step := fromImm (addIn cfg.flagPredicates) n s

/-- ADC A,n (R215). -/
def execAdcAImm (n : Byte) (s : State) (cfg : Settings := settings) : Step := fromImm (adcIn cfg.flagPredicates) n s

/-- SUB A,n (R218). -/
def execSubAImm (n : Byte) (s : State) (cfg : Settings := settings) : Step := fromImm (subIn cfg.flagPredicates) n s

/-- SBC A,n (R221). -/
def execSbcAImm (n : Byte) (s : State) (cfg : Settings := settings) : Step := fromImm (sbcIn cfg.flagPredicates) n s

/-- AND A,n (R224). -/
def execAndAImm (n : Byte) (s : State) : Step := fromImm andA n s

/-- XOR A,n (R227). -/
def execXorAImm (n : Byte) (s : State) : Step := fromImm xorA n s

/-- OR A,n (R230). -/
def execOrAImm (n : Byte) (s : State) : Step := fromImm orA n s

/-- CP A,n (R233). -/
def execCpAImm (n : Byte) (s : State) (cfg : Settings := settings) : Step := fromImm (subFlagsIn cfg.flagPredicates) n s

end Sys2Proof.Machine
end

