-- ==== Sys2Proof/Machine/Cb.lean ====
section
/-! DEFINITION. The CB-prefixed instructions (47_cb_prefixed.md, R290 to R314). -/

namespace Sys2Proof.Machine

open Sys2Proof

/-- A rotate or shift (R313): Z always reflects the result. -/
def rotate (kind : RotKind) (v : Byte) (s : State) : Byte × State :=
  let (res, cout) := rot kind v s.flagC
  (res, s.setFlags (some (res == 0)) (some false) (some false) (some cout))

/-- BIT (R306): C is unchanged. -/
def testBitIn (num : BitNum) (n : BitVec 3) (v : Byte) (s : State) : State :=
  s.setFlags (some (v &&& bitMaskOf num n == 0)) (some false) (some true) none

/-- The same at the model's setting of `BITNUM`. -/
def testBit (n : BitVec 3) (v : Byte) (s : State) : State := testBitIn Params.bitNum n v s

/-- RES (R308): no flag. -/
def clearBitIn (num : BitNum) (n : BitVec 3) (v : Byte) (s : State) : Byte × State := (v &&& ~~~(bitMaskOf num n), s)

/-- The same at the model's setting of `BITNUM`. -/
def clearBit (n : BitVec 3) (v : Byte) (s : State) : Byte × State := clearBitIn Params.bitNum n v s

/-- SET (R310): no flag. -/
def setBitIn (num : BitNum) (n : BitVec 3) (v : Byte) (s : State) : Byte × State := (v ||| bitMaskOf num n, s)

/-- The same at the model's setting of `BITNUM`. -/
def setBit (n : BitVec 3) (v : Byte) (s : State) : Byte × State := setBitIn Params.bitNum n v s

/-- RLC B (R290). -/
def execRlcB (s : State) : Step := modifyReg (rotate .rlc) .b s

/-- RLC C (R290). -/
def execRlcC (s : State) : Step := modifyReg (rotate .rlc) .c s

/-- RLC D (R290). -/
def execRlcD (s : State) : Step := modifyReg (rotate .rlc) .d s

/-- RLC E (R290). -/
def execRlcE (s : State) : Step := modifyReg (rotate .rlc) .e s

/-- RLC H (R290). -/
def execRlcH (s : State) : Step := modifyReg (rotate .rlc) .h s

/-- RLC L (R290). -/
def execRlcL (s : State) : Step := modifyReg (rotate .rlc) .l s

/-- RLC (HL) (R291). -/
def execRlcAtHl (s : State) (cfg : Settings := settings) : Step := modifyAtHl (rotate .rlc) s cfg

/-- RLC A (R290). -/
def execRlcA (s : State) : Step := modifyReg (rotate .rlc) .a s

/-- RRC B (R292). -/
def execRrcB (s : State) : Step := modifyReg (rotate .rrc) .b s

/-- RRC C (R292). -/
def execRrcC (s : State) : Step := modifyReg (rotate .rrc) .c s

/-- RRC D (R292). -/
def execRrcD (s : State) : Step := modifyReg (rotate .rrc) .d s

/-- RRC E (R292). -/
def execRrcE (s : State) : Step := modifyReg (rotate .rrc) .e s

/-- RRC H (R292). -/
def execRrcH (s : State) : Step := modifyReg (rotate .rrc) .h s

/-- RRC L (R292). -/
def execRrcL (s : State) : Step := modifyReg (rotate .rrc) .l s

/-- RRC (HL) (R293). -/
def execRrcAtHl (s : State) (cfg : Settings := settings) : Step := modifyAtHl (rotate .rrc) s cfg

/-- RRC A (R292). -/
def execRrcA (s : State) : Step := modifyReg (rotate .rrc) .a s

/-- RL B (R294). -/
def execRlB (s : State) : Step := modifyReg (rotate .rl) .b s

/-- RL C (R294). -/
def execRlC (s : State) : Step := modifyReg (rotate .rl) .c s

/-- RL D (R294). -/
def execRlD (s : State) : Step := modifyReg (rotate .rl) .d s

/-- RL E (R294). -/
def execRlE (s : State) : Step := modifyReg (rotate .rl) .e s

/-- RL H (R294). -/
def execRlH (s : State) : Step := modifyReg (rotate .rl) .h s

/-- RL L (R294). -/
def execRlL (s : State) : Step := modifyReg (rotate .rl) .l s

/-- RL (HL) (R295). -/
def execRlAtHl (s : State) (cfg : Settings := settings) : Step := modifyAtHl (rotate .rl) s cfg

/-- RL A (R294). -/
def execRlA (s : State) : Step := modifyReg (rotate .rl) .a s

/-- RR B (R296). -/
def execRrB (s : State) : Step := modifyReg (rotate .rr) .b s

/-- RR C (R296). -/
def execRrC (s : State) : Step := modifyReg (rotate .rr) .c s

/-- RR D (R296). -/
def execRrD (s : State) : Step := modifyReg (rotate .rr) .d s

/-- RR E (R296). -/
def execRrE (s : State) : Step := modifyReg (rotate .rr) .e s

/-- RR H (R296). -/
def execRrH (s : State) : Step := modifyReg (rotate .rr) .h s

/-- RR L (R296). -/
def execRrL (s : State) : Step := modifyReg (rotate .rr) .l s

/-- RR (HL) (R297). -/
def execRrAtHl (s : State) (cfg : Settings := settings) : Step := modifyAtHl (rotate .rr) s cfg

/-- RR A (R296). -/
def execRrA (s : State) : Step := modifyReg (rotate .rr) .a s

/-- SLA B (R298). -/
def execSlaB (s : State) : Step := modifyReg (rotate .sla) .b s

/-- SLA C (R298). -/
def execSlaC (s : State) : Step := modifyReg (rotate .sla) .c s

/-- SLA D (R298). -/
def execSlaD (s : State) : Step := modifyReg (rotate .sla) .d s

/-- SLA E (R298). -/
def execSlaE (s : State) : Step := modifyReg (rotate .sla) .e s

/-- SLA H (R298). -/
def execSlaH (s : State) : Step := modifyReg (rotate .sla) .h s

/-- SLA L (R298). -/
def execSlaL (s : State) : Step := modifyReg (rotate .sla) .l s

/-- SLA (HL) (R299). -/
def execSlaAtHl (s : State) (cfg : Settings := settings) : Step := modifyAtHl (rotate .sla) s cfg

/-- SLA A (R298). -/
def execSlaA (s : State) : Step := modifyReg (rotate .sla) .a s

/-- SRA B (R300). -/
def execSraB (s : State) : Step := modifyReg (rotate .sra) .b s

/-- SRA C (R300). -/
def execSraC (s : State) : Step := modifyReg (rotate .sra) .c s

/-- SRA D (R300). -/
def execSraD (s : State) : Step := modifyReg (rotate .sra) .d s

/-- SRA E (R300). -/
def execSraE (s : State) : Step := modifyReg (rotate .sra) .e s

/-- SRA H (R300). -/
def execSraH (s : State) : Step := modifyReg (rotate .sra) .h s

/-- SRA L (R300). -/
def execSraL (s : State) : Step := modifyReg (rotate .sra) .l s

/-- SRA (HL) (R301). -/
def execSraAtHl (s : State) (cfg : Settings := settings) : Step := modifyAtHl (rotate .sra) s cfg

/-- SRA A (R300). -/
def execSraA (s : State) : Step := modifyReg (rotate .sra) .a s

/-- SWAP B (R302). -/
def execSwapB (s : State) : Step := modifyReg (rotate .swap) .b s

/-- SWAP C (R302). -/
def execSwapC (s : State) : Step := modifyReg (rotate .swap) .c s

/-- SWAP D (R302). -/
def execSwapD (s : State) : Step := modifyReg (rotate .swap) .d s

/-- SWAP E (R302). -/
def execSwapE (s : State) : Step := modifyReg (rotate .swap) .e s

/-- SWAP H (R302). -/
def execSwapH (s : State) : Step := modifyReg (rotate .swap) .h s

/-- SWAP L (R302). -/
def execSwapL (s : State) : Step := modifyReg (rotate .swap) .l s

/-- SWAP (HL) (R303). -/
def execSwapAtHl (s : State) (cfg : Settings := settings) : Step := modifyAtHl (rotate .swap) s cfg

/-- SWAP A (R302). -/
def execSwapA (s : State) : Step := modifyReg (rotate .swap) .a s

/-- SRL B (R304). -/
def execSrlB (s : State) : Step := modifyReg (rotate .srl) .b s

/-- SRL C (R304). -/
def execSrlC (s : State) : Step := modifyReg (rotate .srl) .c s

/-- SRL D (R304). -/
def execSrlD (s : State) : Step := modifyReg (rotate .srl) .d s

/-- SRL E (R304). -/
def execSrlE (s : State) : Step := modifyReg (rotate .srl) .e s

/-- SRL H (R304). -/
def execSrlH (s : State) : Step := modifyReg (rotate .srl) .h s

/-- SRL L (R304). -/
def execSrlL (s : State) : Step := modifyReg (rotate .srl) .l s

/-- SRL (HL) (R305). -/
def execSrlAtHl (s : State) (cfg : Settings := settings) : Step := modifyAtHl (rotate .srl) s cfg

/-- SRL A (R304). -/
def execSrlA (s : State) : Step := modifyReg (rotate .srl) .a s

/-- BIT 0,B (R306). -/
def execBit0B (s : State) (cfg : Settings := settings) : Step := fromReg (testBitIn cfg.bitNum 0) .b s

/-- BIT 0,C (R306). -/
def execBit0C (s : State) (cfg : Settings := settings) : Step := fromReg (testBitIn cfg.bitNum 0) .c s

/-- BIT 0,D (R306). -/
def execBit0D (s : State) (cfg : Settings := settings) : Step := fromReg (testBitIn cfg.bitNum 0) .d s

/-- BIT 0,E (R306). -/
def execBit0E (s : State) (cfg : Settings := settings) : Step := fromReg (testBitIn cfg.bitNum 0) .e s

/-- BIT 0,H (R306). -/
def execBit0H (s : State) (cfg : Settings := settings) : Step := fromReg (testBitIn cfg.bitNum 0) .h s

/-- BIT 0,L (R306). -/
def execBit0L (s : State) (cfg : Settings := settings) : Step := fromReg (testBitIn cfg.bitNum 0) .l s

/-- BIT 0,(HL) (R307). -/
def execBit0AtHl (s : State) (cfg : Settings := settings) : Step := fromMem (testBitIn cfg.bitNum 0) s.hl s cfg

/-- BIT 0,A (R306). -/
def execBit0A (s : State) (cfg : Settings := settings) : Step := fromReg (testBitIn cfg.bitNum 0) .a s

/-- BIT 1,B (R306). -/
def execBit1B (s : State) (cfg : Settings := settings) : Step := fromReg (testBitIn cfg.bitNum 1) .b s

/-- BIT 1,C (R306). -/
def execBit1C (s : State) (cfg : Settings := settings) : Step := fromReg (testBitIn cfg.bitNum 1) .c s

/-- BIT 1,D (R306). -/
def execBit1D (s : State) (cfg : Settings := settings) : Step := fromReg (testBitIn cfg.bitNum 1) .d s

/-- BIT 1,E (R306). -/
def execBit1E (s : State) (cfg : Settings := settings) : Step := fromReg (testBitIn cfg.bitNum 1) .e s

/-- BIT 1,H (R306). -/
def execBit1H (s : State) (cfg : Settings := settings) : Step := fromReg (testBitIn cfg.bitNum 1) .h s

/-- BIT 1,L (R306). -/
def execBit1L (s : State) (cfg : Settings := settings) : Step := fromReg (testBitIn cfg.bitNum 1) .l s

/-- BIT 1,(HL) (R307). -/
def execBit1AtHl (s : State) (cfg : Settings := settings) : Step := fromMem (testBitIn cfg.bitNum 1) s.hl s cfg

/-- BIT 1,A (R306). -/
def execBit1A (s : State) (cfg : Settings := settings) : Step := fromReg (testBitIn cfg.bitNum 1) .a s

/-- BIT 2,B (R306). -/
def execBit2B (s : State) (cfg : Settings := settings) : Step := fromReg (testBitIn cfg.bitNum 2) .b s

/-- BIT 2,C (R306). -/
def execBit2C (s : State) (cfg : Settings := settings) : Step := fromReg (testBitIn cfg.bitNum 2) .c s

/-- BIT 2,D (R306). -/
def execBit2D (s : State) (cfg : Settings := settings) : Step := fromReg (testBitIn cfg.bitNum 2) .d s

/-- BIT 2,E (R306). -/
def execBit2E (s : State) (cfg : Settings := settings) : Step := fromReg (testBitIn cfg.bitNum 2) .e s

/-- BIT 2,H (R306). -/
def execBit2H (s : State) (cfg : Settings := settings) : Step := fromReg (testBitIn cfg.bitNum 2) .h s

/-- BIT 2,L (R306). -/
def execBit2L (s : State) (cfg : Settings := settings) : Step := fromReg (testBitIn cfg.bitNum 2) .l s

/-- BIT 2,(HL) (R307). -/
def execBit2AtHl (s : State) (cfg : Settings := settings) : Step := fromMem (testBitIn cfg.bitNum 2) s.hl s cfg

/-- BIT 2,A (R306). -/
def execBit2A (s : State) (cfg : Settings := settings) : Step := fromReg (testBitIn cfg.bitNum 2) .a s

/-- BIT 3,B (R306). -/
def execBit3B (s : State) (cfg : Settings := settings) : Step := fromReg (testBitIn cfg.bitNum 3) .b s

/-- BIT 3,C (R306). -/
def execBit3C (s : State) (cfg : Settings := settings) : Step := fromReg (testBitIn cfg.bitNum 3) .c s

/-- BIT 3,D (R306). -/
def execBit3D (s : State) (cfg : Settings := settings) : Step := fromReg (testBitIn cfg.bitNum 3) .d s

/-- BIT 3,E (R306). -/
def execBit3E (s : State) (cfg : Settings := settings) : Step := fromReg (testBitIn cfg.bitNum 3) .e s

/-- BIT 3,H (R306). -/
def execBit3H (s : State) (cfg : Settings := settings) : Step := fromReg (testBitIn cfg.bitNum 3) .h s

/-- BIT 3,L (R306). -/
def execBit3L (s : State) (cfg : Settings := settings) : Step := fromReg (testBitIn cfg.bitNum 3) .l s

/-- BIT 3,(HL) (R307). -/
def execBit3AtHl (s : State) (cfg : Settings := settings) : Step := fromMem (testBitIn cfg.bitNum 3) s.hl s cfg

/-- BIT 3,A (R306). -/
def execBit3A (s : State) (cfg : Settings := settings) : Step := fromReg (testBitIn cfg.bitNum 3) .a s

/-- BIT 4,B (R306). -/
def execBit4B (s : State) (cfg : Settings := settings) : Step := fromReg (testBitIn cfg.bitNum 4) .b s

/-- BIT 4,C (R306). -/
def execBit4C (s : State) (cfg : Settings := settings) : Step := fromReg (testBitIn cfg.bitNum 4) .c s

/-- BIT 4,D (R306). -/
def execBit4D (s : State) (cfg : Settings := settings) : Step := fromReg (testBitIn cfg.bitNum 4) .d s

/-- BIT 4,E (R306). -/
def execBit4E (s : State) (cfg : Settings := settings) : Step := fromReg (testBitIn cfg.bitNum 4) .e s

/-- BIT 4,H (R306). -/
def execBit4H (s : State) (cfg : Settings := settings) : Step := fromReg (testBitIn cfg.bitNum 4) .h s

/-- BIT 4,L (R306). -/
def execBit4L (s : State) (cfg : Settings := settings) : Step := fromReg (testBitIn cfg.bitNum 4) .l s

/-- BIT 4,(HL) (R307). -/
def execBit4AtHl (s : State) (cfg : Settings := settings) : Step := fromMem (testBitIn cfg.bitNum 4) s.hl s cfg

/-- BIT 4,A (R306). -/
def execBit4A (s : State) (cfg : Settings := settings) : Step := fromReg (testBitIn cfg.bitNum 4) .a s

/-- BIT 5,B (R306). -/
def execBit5B (s : State) (cfg : Settings := settings) : Step := fromReg (testBitIn cfg.bitNum 5) .b s

/-- BIT 5,C (R306). -/
def execBit5C (s : State) (cfg : Settings := settings) : Step := fromReg (testBitIn cfg.bitNum 5) .c s

/-- BIT 5,D (R306). -/
def execBit5D (s : State) (cfg : Settings := settings) : Step := fromReg (testBitIn cfg.bitNum 5) .d s

/-- BIT 5,E (R306). -/
def execBit5E (s : State) (cfg : Settings := settings) : Step := fromReg (testBitIn cfg.bitNum 5) .e s

/-- BIT 5,H (R306). -/
def execBit5H (s : State) (cfg : Settings := settings) : Step := fromReg (testBitIn cfg.bitNum 5) .h s

/-- BIT 5,L (R306). -/
def execBit5L (s : State) (cfg : Settings := settings) : Step := fromReg (testBitIn cfg.bitNum 5) .l s

/-- BIT 5,(HL) (R307). -/
def execBit5AtHl (s : State) (cfg : Settings := settings) : Step := fromMem (testBitIn cfg.bitNum 5) s.hl s cfg

/-- BIT 5,A (R306). -/
def execBit5A (s : State) (cfg : Settings := settings) : Step := fromReg (testBitIn cfg.bitNum 5) .a s

/-- BIT 6,B (R306). -/
def execBit6B (s : State) (cfg : Settings := settings) : Step := fromReg (testBitIn cfg.bitNum 6) .b s

/-- BIT 6,C (R306). -/
def execBit6C (s : State) (cfg : Settings := settings) : Step := fromReg (testBitIn cfg.bitNum 6) .c s

/-- BIT 6,D (R306). -/
def execBit6D (s : State) (cfg : Settings := settings) : Step := fromReg (testBitIn cfg.bitNum 6) .d s

/-- BIT 6,E (R306). -/
def execBit6E (s : State) (cfg : Settings := settings) : Step := fromReg (testBitIn cfg.bitNum 6) .e s

/-- BIT 6,H (R306). -/
def execBit6H (s : State) (cfg : Settings := settings) : Step := fromReg (testBitIn cfg.bitNum 6) .h s

/-- BIT 6,L (R306). -/
def execBit6L (s : State) (cfg : Settings := settings) : Step := fromReg (testBitIn cfg.bitNum 6) .l s

/-- BIT 6,(HL) (R307). -/
def execBit6AtHl (s : State) (cfg : Settings := settings) : Step := fromMem (testBitIn cfg.bitNum 6) s.hl s cfg

/-- BIT 6,A (R306). -/
def execBit6A (s : State) (cfg : Settings := settings) : Step := fromReg (testBitIn cfg.bitNum 6) .a s

/-- BIT 7,B (R306). -/
def execBit7B (s : State) (cfg : Settings := settings) : Step := fromReg (testBitIn cfg.bitNum 7) .b s

/-- BIT 7,C (R306). -/
def execBit7C (s : State) (cfg : Settings := settings) : Step := fromReg (testBitIn cfg.bitNum 7) .c s

/-- BIT 7,D (R306). -/
def execBit7D (s : State) (cfg : Settings := settings) : Step := fromReg (testBitIn cfg.bitNum 7) .d s

/-- BIT 7,E (R306). -/
def execBit7E (s : State) (cfg : Settings := settings) : Step := fromReg (testBitIn cfg.bitNum 7) .e s

/-- BIT 7,H (R306). -/
def execBit7H (s : State) (cfg : Settings := settings) : Step := fromReg (testBitIn cfg.bitNum 7) .h s

/-- BIT 7,L (R306). -/
def execBit7L (s : State) (cfg : Settings := settings) : Step := fromReg (testBitIn cfg.bitNum 7) .l s

/-- BIT 7,(HL) (R307). -/
def execBit7AtHl (s : State) (cfg : Settings := settings) : Step := fromMem (testBitIn cfg.bitNum 7) s.hl s cfg

/-- BIT 7,A (R306). -/
def execBit7A (s : State) (cfg : Settings := settings) : Step := fromReg (testBitIn cfg.bitNum 7) .a s

/-- RES 0,B (R308). -/
def execRes0B (s : State) (cfg : Settings := settings) : Step := modifyReg (clearBitIn cfg.bitNum 0) .b s

/-- RES 0,C (R308). -/
def execRes0C (s : State) (cfg : Settings := settings) : Step := modifyReg (clearBitIn cfg.bitNum 0) .c s

/-- RES 0,D (R308). -/
def execRes0D (s : State) (cfg : Settings := settings) : Step := modifyReg (clearBitIn cfg.bitNum 0) .d s

/-- RES 0,E (R308). -/
def execRes0E (s : State) (cfg : Settings := settings) : Step := modifyReg (clearBitIn cfg.bitNum 0) .e s

/-- RES 0,H (R308). -/
def execRes0H (s : State) (cfg : Settings := settings) : Step := modifyReg (clearBitIn cfg.bitNum 0) .h s

/-- RES 0,L (R308). -/
def execRes0L (s : State) (cfg : Settings := settings) : Step := modifyReg (clearBitIn cfg.bitNum 0) .l s

/-- RES 0,(HL) (R309). -/
def execRes0AtHl (s : State) (cfg : Settings := settings) : Step := modifyAtHl (clearBitIn cfg.bitNum 0) s cfg

/-- RES 0,A (R308). -/
def execRes0A (s : State) (cfg : Settings := settings) : Step := modifyReg (clearBitIn cfg.bitNum 0) .a s

/-- RES 1,B (R308). -/
def execRes1B (s : State) (cfg : Settings := settings) : Step := modifyReg (clearBitIn cfg.bitNum 1) .b s

/-- RES 1,C (R308). -/
def execRes1C (s : State) (cfg : Settings := settings) : Step := modifyReg (clearBitIn cfg.bitNum 1) .c s

/-- RES 1,D (R308). -/
def execRes1D (s : State) (cfg : Settings := settings) : Step := modifyReg (clearBitIn cfg.bitNum 1) .d s

/-- RES 1,E (R308). -/
def execRes1E (s : State) (cfg : Settings := settings) : Step := modifyReg (clearBitIn cfg.bitNum 1) .e s

/-- RES 1,H (R308). -/
def execRes1H (s : State) (cfg : Settings := settings) : Step := modifyReg (clearBitIn cfg.bitNum 1) .h s

/-- RES 1,L (R308). -/
def execRes1L (s : State) (cfg : Settings := settings) : Step := modifyReg (clearBitIn cfg.bitNum 1) .l s

/-- RES 1,(HL) (R309). -/
def execRes1AtHl (s : State) (cfg : Settings := settings) : Step := modifyAtHl (clearBitIn cfg.bitNum 1) s cfg

/-- RES 1,A (R308). -/
def execRes1A (s : State) (cfg : Settings := settings) : Step := modifyReg (clearBitIn cfg.bitNum 1) .a s

/-- RES 2,B (R308). -/
def execRes2B (s : State) (cfg : Settings := settings) : Step := modifyReg (clearBitIn cfg.bitNum 2) .b s

/-- RES 2,C (R308). -/
def execRes2C (s : State) (cfg : Settings := settings) : Step := modifyReg (clearBitIn cfg.bitNum 2) .c s

/-- RES 2,D (R308). -/
def execRes2D (s : State) (cfg : Settings := settings) : Step := modifyReg (clearBitIn cfg.bitNum 2) .d s

/-- RES 2,E (R308). -/
def execRes2E (s : State) (cfg : Settings := settings) : Step := modifyReg (clearBitIn cfg.bitNum 2) .e s

/-- RES 2,H (R308). -/
def execRes2H (s : State) (cfg : Settings := settings) : Step := modifyReg (clearBitIn cfg.bitNum 2) .h s

/-- RES 2,L (R308). -/
def execRes2L (s : State) (cfg : Settings := settings) : Step := modifyReg (clearBitIn cfg.bitNum 2) .l s

/-- RES 2,(HL) (R309). -/
def execRes2AtHl (s : State) (cfg : Settings := settings) : Step := modifyAtHl (clearBitIn cfg.bitNum 2) s cfg

/-- RES 2,A (R308). -/
def execRes2A (s : State) (cfg : Settings := settings) : Step := modifyReg (clearBitIn cfg.bitNum 2) .a s

/-- RES 3,B (R308). -/
def execRes3B (s : State) (cfg : Settings := settings) : Step := modifyReg (clearBitIn cfg.bitNum 3) .b s

/-- RES 3,C (R308). -/
def execRes3C (s : State) (cfg : Settings := settings) : Step := modifyReg (clearBitIn cfg.bitNum 3) .c s

/-- RES 3,D (R308). -/
def execRes3D (s : State) (cfg : Settings := settings) : Step := modifyReg (clearBitIn cfg.bitNum 3) .d s

/-- RES 3,E (R308). -/
def execRes3E (s : State) (cfg : Settings := settings) : Step := modifyReg (clearBitIn cfg.bitNum 3) .e s

/-- RES 3,H (R308). -/
def execRes3H (s : State) (cfg : Settings := settings) : Step := modifyReg (clearBitIn cfg.bitNum 3) .h s

/-- RES 3,L (R308). -/
def execRes3L (s : State) (cfg : Settings := settings) : Step := modifyReg (clearBitIn cfg.bitNum 3) .l s

/-- RES 3,(HL) (R309). -/
def execRes3AtHl (s : State) (cfg : Settings := settings) : Step := modifyAtHl (clearBitIn cfg.bitNum 3) s cfg

/-- RES 3,A (R308). -/
def execRes3A (s : State) (cfg : Settings := settings) : Step := modifyReg (clearBitIn cfg.bitNum 3) .a s

/-- RES 4,B (R308). -/
def execRes4B (s : State) (cfg : Settings := settings) : Step := modifyReg (clearBitIn cfg.bitNum 4) .b s

/-- RES 4,C (R308). -/
def execRes4C (s : State) (cfg : Settings := settings) : Step := modifyReg (clearBitIn cfg.bitNum 4) .c s

/-- RES 4,D (R308). -/
def execRes4D (s : State) (cfg : Settings := settings) : Step := modifyReg (clearBitIn cfg.bitNum 4) .d s

/-- RES 4,E (R308). -/
def execRes4E (s : State) (cfg : Settings := settings) : Step := modifyReg (clearBitIn cfg.bitNum 4) .e s

/-- RES 4,H (R308). -/
def execRes4H (s : State) (cfg : Settings := settings) : Step := modifyReg (clearBitIn cfg.bitNum 4) .h s

/-- RES 4,L (R308). -/
def execRes4L (s : State) (cfg : Settings := settings) : Step := modifyReg (clearBitIn cfg.bitNum 4) .l s

/-- RES 4,(HL) (R309). -/
def execRes4AtHl (s : State) (cfg : Settings := settings) : Step := modifyAtHl (clearBitIn cfg.bitNum 4) s cfg

/-- RES 4,A (R308). -/
def execRes4A (s : State) (cfg : Settings := settings) : Step := modifyReg (clearBitIn cfg.bitNum 4) .a s

/-- RES 5,B (R308). -/
def execRes5B (s : State) (cfg : Settings := settings) : Step := modifyReg (clearBitIn cfg.bitNum 5) .b s

/-- RES 5,C (R308). -/
def execRes5C (s : State) (cfg : Settings := settings) : Step := modifyReg (clearBitIn cfg.bitNum 5) .c s

/-- RES 5,D (R308). -/
def execRes5D (s : State) (cfg : Settings := settings) : Step := modifyReg (clearBitIn cfg.bitNum 5) .d s

/-- RES 5,E (R308). -/
def execRes5E (s : State) (cfg : Settings := settings) : Step := modifyReg (clearBitIn cfg.bitNum 5) .e s

/-- RES 5,H (R308). -/
def execRes5H (s : State) (cfg : Settings := settings) : Step := modifyReg (clearBitIn cfg.bitNum 5) .h s

/-- RES 5,L (R308). -/
def execRes5L (s : State) (cfg : Settings := settings) : Step := modifyReg (clearBitIn cfg.bitNum 5) .l s

/-- RES 5,(HL) (R309). -/
def execRes5AtHl (s : State) (cfg : Settings := settings) : Step := modifyAtHl (clearBitIn cfg.bitNum 5) s cfg

/-- RES 5,A (R308). -/
def execRes5A (s : State) (cfg : Settings := settings) : Step := modifyReg (clearBitIn cfg.bitNum 5) .a s

/-- RES 6,B (R308). -/
def execRes6B (s : State) (cfg : Settings := settings) : Step := modifyReg (clearBitIn cfg.bitNum 6) .b s

/-- RES 6,C (R308). -/
def execRes6C (s : State) (cfg : Settings := settings) : Step := modifyReg (clearBitIn cfg.bitNum 6) .c s

/-- RES 6,D (R308). -/
def execRes6D (s : State) (cfg : Settings := settings) : Step := modifyReg (clearBitIn cfg.bitNum 6) .d s

/-- RES 6,E (R308). -/
def execRes6E (s : State) (cfg : Settings := settings) : Step := modifyReg (clearBitIn cfg.bitNum 6) .e s

/-- RES 6,H (R308). -/
def execRes6H (s : State) (cfg : Settings := settings) : Step := modifyReg (clearBitIn cfg.bitNum 6) .h s

/-- RES 6,L (R308). -/
def execRes6L (s : State) (cfg : Settings := settings) : Step := modifyReg (clearBitIn cfg.bitNum 6) .l s

/-- RES 6,(HL) (R309). -/
def execRes6AtHl (s : State) (cfg : Settings := settings) : Step := modifyAtHl (clearBitIn cfg.bitNum 6) s cfg

/-- RES 6,A (R308). -/
def execRes6A (s : State) (cfg : Settings := settings) : Step := modifyReg (clearBitIn cfg.bitNum 6) .a s

/-- RES 7,B (R308). -/
def execRes7B (s : State) (cfg : Settings := settings) : Step := modifyReg (clearBitIn cfg.bitNum 7) .b s

/-- RES 7,C (R308). -/
def execRes7C (s : State) (cfg : Settings := settings) : Step := modifyReg (clearBitIn cfg.bitNum 7) .c s

/-- RES 7,D (R308). -/
def execRes7D (s : State) (cfg : Settings := settings) : Step := modifyReg (clearBitIn cfg.bitNum 7) .d s

/-- RES 7,E (R308). -/
def execRes7E (s : State) (cfg : Settings := settings) : Step := modifyReg (clearBitIn cfg.bitNum 7) .e s

/-- RES 7,H (R308). -/
def execRes7H (s : State) (cfg : Settings := settings) : Step := modifyReg (clearBitIn cfg.bitNum 7) .h s

/-- RES 7,L (R308). -/
def execRes7L (s : State) (cfg : Settings := settings) : Step := modifyReg (clearBitIn cfg.bitNum 7) .l s

/-- RES 7,(HL) (R309). -/
def execRes7AtHl (s : State) (cfg : Settings := settings) : Step := modifyAtHl (clearBitIn cfg.bitNum 7) s cfg

/-- RES 7,A (R308). -/
def execRes7A (s : State) (cfg : Settings := settings) : Step := modifyReg (clearBitIn cfg.bitNum 7) .a s

/-- SET 0,B (R310). -/
def execSet0B (s : State) (cfg : Settings := settings) : Step := modifyReg (setBitIn cfg.bitNum 0) .b s

/-- SET 0,C (R310). -/
def execSet0C (s : State) (cfg : Settings := settings) : Step := modifyReg (setBitIn cfg.bitNum 0) .c s

/-- SET 0,D (R310). -/
def execSet0D (s : State) (cfg : Settings := settings) : Step := modifyReg (setBitIn cfg.bitNum 0) .d s

/-- SET 0,E (R310). -/
def execSet0E (s : State) (cfg : Settings := settings) : Step := modifyReg (setBitIn cfg.bitNum 0) .e s

/-- SET 0,H (R310). -/
def execSet0H (s : State) (cfg : Settings := settings) : Step := modifyReg (setBitIn cfg.bitNum 0) .h s

/-- SET 0,L (R310). -/
def execSet0L (s : State) (cfg : Settings := settings) : Step := modifyReg (setBitIn cfg.bitNum 0) .l s

/-- SET 0,(HL) (R311). -/
def execSet0AtHl (s : State) (cfg : Settings := settings) : Step := modifyAtHl (setBitIn cfg.bitNum 0) s cfg

/-- SET 0,A (R310). -/
def execSet0A (s : State) (cfg : Settings := settings) : Step := modifyReg (setBitIn cfg.bitNum 0) .a s

/-- SET 1,B (R310). -/
def execSet1B (s : State) (cfg : Settings := settings) : Step := modifyReg (setBitIn cfg.bitNum 1) .b s

/-- SET 1,C (R310). -/
def execSet1C (s : State) (cfg : Settings := settings) : Step := modifyReg (setBitIn cfg.bitNum 1) .c s

/-- SET 1,D (R310). -/
def execSet1D (s : State) (cfg : Settings := settings) : Step := modifyReg (setBitIn cfg.bitNum 1) .d s

/-- SET 1,E (R310). -/
def execSet1E (s : State) (cfg : Settings := settings) : Step := modifyReg (setBitIn cfg.bitNum 1) .e s

/-- SET 1,H (R310). -/
def execSet1H (s : State) (cfg : Settings := settings) : Step := modifyReg (setBitIn cfg.bitNum 1) .h s

/-- SET 1,L (R310). -/
def execSet1L (s : State) (cfg : Settings := settings) : Step := modifyReg (setBitIn cfg.bitNum 1) .l s

/-- SET 1,(HL) (R311). -/
def execSet1AtHl (s : State) (cfg : Settings := settings) : Step := modifyAtHl (setBitIn cfg.bitNum 1) s cfg

/-- SET 1,A (R310). -/
def execSet1A (s : State) (cfg : Settings := settings) : Step := modifyReg (setBitIn cfg.bitNum 1) .a s

/-- SET 2,B (R310). -/
def execSet2B (s : State) (cfg : Settings := settings) : Step := modifyReg (setBitIn cfg.bitNum 2) .b s

/-- SET 2,C (R310). -/
def execSet2C (s : State) (cfg : Settings := settings) : Step := modifyReg (setBitIn cfg.bitNum 2) .c s

/-- SET 2,D (R310). -/
def execSet2D (s : State) (cfg : Settings := settings) : Step := modifyReg (setBitIn cfg.bitNum 2) .d s

/-- SET 2,E (R310). -/
def execSet2E (s : State) (cfg : Settings := settings) : Step := modifyReg (setBitIn cfg.bitNum 2) .e s

/-- SET 2,H (R310). -/
def execSet2H (s : State) (cfg : Settings := settings) : Step := modifyReg (setBitIn cfg.bitNum 2) .h s

/-- SET 2,L (R310). -/
def execSet2L (s : State) (cfg : Settings := settings) : Step := modifyReg (setBitIn cfg.bitNum 2) .l s

/-- SET 2,(HL) (R311). -/
def execSet2AtHl (s : State) (cfg : Settings := settings) : Step := modifyAtHl (setBitIn cfg.bitNum 2) s cfg

/-- SET 2,A (R310). -/
def execSet2A (s : State) (cfg : Settings := settings) : Step := modifyReg (setBitIn cfg.bitNum 2) .a s

/-- SET 3,B (R310). -/
def execSet3B (s : State) (cfg : Settings := settings) : Step := modifyReg (setBitIn cfg.bitNum 3) .b s

/-- SET 3,C (R310). -/
def execSet3C (s : State) (cfg : Settings := settings) : Step := modifyReg (setBitIn cfg.bitNum 3) .c s

/-- SET 3,D (R310). -/
def execSet3D (s : State) (cfg : Settings := settings) : Step := modifyReg (setBitIn cfg.bitNum 3) .d s

/-- SET 3,E (R310). -/
def execSet3E (s : State) (cfg : Settings := settings) : Step := modifyReg (setBitIn cfg.bitNum 3) .e s

/-- SET 3,H (R310). -/
def execSet3H (s : State) (cfg : Settings := settings) : Step := modifyReg (setBitIn cfg.bitNum 3) .h s

/-- SET 3,L (R310). -/
def execSet3L (s : State) (cfg : Settings := settings) : Step := modifyReg (setBitIn cfg.bitNum 3) .l s

/-- SET 3,(HL) (R311). -/
def execSet3AtHl (s : State) (cfg : Settings := settings) : Step := modifyAtHl (setBitIn cfg.bitNum 3) s cfg

/-- SET 3,A (R310). -/
def execSet3A (s : State) (cfg : Settings := settings) : Step := modifyReg (setBitIn cfg.bitNum 3) .a s

/-- SET 4,B (R310). -/
def execSet4B (s : State) (cfg : Settings := settings) : Step := modifyReg (setBitIn cfg.bitNum 4) .b s

/-- SET 4,C (R310). -/
def execSet4C (s : State) (cfg : Settings := settings) : Step := modifyReg (setBitIn cfg.bitNum 4) .c s

/-- SET 4,D (R310). -/
def execSet4D (s : State) (cfg : Settings := settings) : Step := modifyReg (setBitIn cfg.bitNum 4) .d s

/-- SET 4,E (R310). -/
def execSet4E (s : State) (cfg : Settings := settings) : Step := modifyReg (setBitIn cfg.bitNum 4) .e s

/-- SET 4,H (R310). -/
def execSet4H (s : State) (cfg : Settings := settings) : Step := modifyReg (setBitIn cfg.bitNum 4) .h s

/-- SET 4,L (R310). -/
def execSet4L (s : State) (cfg : Settings := settings) : Step := modifyReg (setBitIn cfg.bitNum 4) .l s

/-- SET 4,(HL) (R311). -/
def execSet4AtHl (s : State) (cfg : Settings := settings) : Step := modifyAtHl (setBitIn cfg.bitNum 4) s cfg

/-- SET 4,A (R310). -/
def execSet4A (s : State) (cfg : Settings := settings) : Step := modifyReg (setBitIn cfg.bitNum 4) .a s

/-- SET 5,B (R310). -/
def execSet5B (s : State) (cfg : Settings := settings) : Step := modifyReg (setBitIn cfg.bitNum 5) .b s

/-- SET 5,C (R310). -/
def execSet5C (s : State) (cfg : Settings := settings) : Step := modifyReg (setBitIn cfg.bitNum 5) .c s

/-- SET 5,D (R310). -/
def execSet5D (s : State) (cfg : Settings := settings) : Step := modifyReg (setBitIn cfg.bitNum 5) .d s

/-- SET 5,E (R310). -/
def execSet5E (s : State) (cfg : Settings := settings) : Step := modifyReg (setBitIn cfg.bitNum 5) .e s

/-- SET 5,H (R310). -/
def execSet5H (s : State) (cfg : Settings := settings) : Step := modifyReg (setBitIn cfg.bitNum 5) .h s

/-- SET 5,L (R310). -/
def execSet5L (s : State) (cfg : Settings := settings) : Step := modifyReg (setBitIn cfg.bitNum 5) .l s

/-- SET 5,(HL) (R311). -/
def execSet5AtHl (s : State) (cfg : Settings := settings) : Step := modifyAtHl (setBitIn cfg.bitNum 5) s cfg

/-- SET 5,A (R310). -/
def execSet5A (s : State) (cfg : Settings := settings) : Step := modifyReg (setBitIn cfg.bitNum 5) .a s

/-- SET 6,B (R310). -/
def execSet6B (s : State) (cfg : Settings := settings) : Step := modifyReg (setBitIn cfg.bitNum 6) .b s

/-- SET 6,C (R310). -/
def execSet6C (s : State) (cfg : Settings := settings) : Step := modifyReg (setBitIn cfg.bitNum 6) .c s

/-- SET 6,D (R310). -/
def execSet6D (s : State) (cfg : Settings := settings) : Step := modifyReg (setBitIn cfg.bitNum 6) .d s

/-- SET 6,E (R310). -/
def execSet6E (s : State) (cfg : Settings := settings) : Step := modifyReg (setBitIn cfg.bitNum 6) .e s

/-- SET 6,H (R310). -/
def execSet6H (s : State) (cfg : Settings := settings) : Step := modifyReg (setBitIn cfg.bitNum 6) .h s

/-- SET 6,L (R310). -/
def execSet6L (s : State) (cfg : Settings := settings) : Step := modifyReg (setBitIn cfg.bitNum 6) .l s

/-- SET 6,(HL) (R311). -/
def execSet6AtHl (s : State) (cfg : Settings := settings) : Step := modifyAtHl (setBitIn cfg.bitNum 6) s cfg

/-- SET 6,A (R310). -/
def execSet6A (s : State) (cfg : Settings := settings) : Step := modifyReg (setBitIn cfg.bitNum 6) .a s

/-- SET 7,B (R310). -/
def execSet7B (s : State) (cfg : Settings := settings) : Step := modifyReg (setBitIn cfg.bitNum 7) .b s

/-- SET 7,C (R310). -/
def execSet7C (s : State) (cfg : Settings := settings) : Step := modifyReg (setBitIn cfg.bitNum 7) .c s

/-- SET 7,D (R310). -/
def execSet7D (s : State) (cfg : Settings := settings) : Step := modifyReg (setBitIn cfg.bitNum 7) .d s

/-- SET 7,E (R310). -/
def execSet7E (s : State) (cfg : Settings := settings) : Step := modifyReg (setBitIn cfg.bitNum 7) .e s

/-- SET 7,H (R310). -/
def execSet7H (s : State) (cfg : Settings := settings) : Step := modifyReg (setBitIn cfg.bitNum 7) .h s

/-- SET 7,L (R310). -/
def execSet7L (s : State) (cfg : Settings := settings) : Step := modifyReg (setBitIn cfg.bitNum 7) .l s

/-- SET 7,(HL) (R311). -/
def execSet7AtHl (s : State) (cfg : Settings := settings) : Step := modifyAtHl (setBitIn cfg.bitNum 7) s cfg

/-- SET 7,A (R310). -/
def execSet7A (s : State) (cfg : Settings := settings) : Step := modifyReg (setBitIn cfg.bitNum 7) .a s

end Sys2Proof.Machine
end

