-- ==== Sys2Proof/Machine/Control.lean ====
section
/-! DEFINITION. Control transfer (46_control_transfer.md, R270 to R282). PC is past the instruction when the effect runs, so
it is the base of a relative jump and the return address of a call. -/

namespace Sys2Proof.Machine

open Sys2Proof

/-- The state after a relative jump (R273). -/
def jumpRel (n : Byte) (s : State) : State := { s with pc := s.pc + sext8 n }

/-- A call (R275, R281): push PC, then set it. -/
def call (target : Word) (s : State) (cfg : Settings := settings) : Res Unit :=
  (push16 s.pc s cfg).andThen fun _ s1 => done { s1 with pc := target }

/-- A return (R278). -/
def ret (s : State) (cfg : Settings := settings) : Res Unit := (pop16 s cfg).andThen fun w s1 => done { s1 with pc := w }

/-- A conditional transfer (R277): when the condition is false only `notTaken` is set. -/
def ifCond (cc : Cond) (taken : State → Res Unit) (s : State) : Step :=
  if condHolds cc s then (taken s).outcome else .next { s with notTaken := true }

/-- JR e (R273). -/
def execJrRel (n : Byte) (s : State) : Step := .next (jumpRel n s)

/-- JR NZ,e (R274). -/
def execJrNzRel (n : Byte) (s : State) : Step := ifCond .nz (fun s => done (jumpRel n s)) s

/-- JR Z,e (R274). -/
def execJrZRel (n : Byte) (s : State) : Step := ifCond .z (fun s => done (jumpRel n s)) s

/-- JR NC,e (R274). -/
def execJrNcRel (n : Byte) (s : State) : Step := ifCond .nc (fun s => done (jumpRel n s)) s

/-- JR C,e (R274). -/
def execJrCRel (n : Byte) (s : State) : Step := ifCond .c (fun s => done (jumpRel n s)) s

/-- RET NZ (R279). -/
def execRetNz (s : State) (cfg : Settings := settings) : Step := ifCond .nz (ret · cfg) s

/-- JP NZ,nn (R271). -/
def execJpNzImm16 (nn : Word) (s : State) : Step := ifCond .nz (fun s => done { s with pc := nn }) s

/-- JP nn (R270). -/
def execJpImm16 (nn : Word) (s : State) : Step := .next { s with pc := nn }

/-- CALL NZ,nn (R276). -/
def execCallNzImm16 (nn : Word) (s : State) (cfg : Settings := settings) : Step := ifCond .nz (call nn · cfg) s

/-- RST 00H (R281). -/
def execRst00 (s : State) (cfg : Settings := settings) : Step := (call (word 0x00 0x00) s cfg).outcome

/-- RET Z (R279). -/
def execRetZ (s : State) (cfg : Settings := settings) : Step := ifCond .z (ret · cfg) s

/-- RET (R278). -/
def execRet (s : State) (cfg : Settings := settings) : Step := (ret s cfg).outcome

/-- JP Z,nn (R271). -/
def execJpZImm16 (nn : Word) (s : State) : Step := ifCond .z (fun s => done { s with pc := nn }) s

/-- CALL Z,nn (R276). -/
def execCallZImm16 (nn : Word) (s : State) (cfg : Settings := settings) : Step := ifCond .z (call nn · cfg) s

/-- CALL nn (R275). -/
def execCallImm16 (nn : Word) (s : State) (cfg : Settings := settings) : Step := (call nn s cfg).outcome

/-- RST 08H (R281). -/
def execRst08 (s : State) (cfg : Settings := settings) : Step := (call (word 0x00 0x08) s cfg).outcome

/-- RET NC (R279). -/
def execRetNc (s : State) (cfg : Settings := settings) : Step := ifCond .nc (ret · cfg) s

/-- JP NC,nn (R271). -/
def execJpNcImm16 (nn : Word) (s : State) : Step := ifCond .nc (fun s => done { s with pc := nn }) s

/-- CALL NC,nn (R276). -/
def execCallNcImm16 (nn : Word) (s : State) (cfg : Settings := settings) : Step := ifCond .nc (call nn · cfg) s

/-- RST 10H (R281). -/
def execRst10 (s : State) (cfg : Settings := settings) : Step := (call (word 0x00 0x10) s cfg).outcome

/-- RET C (R279). -/
def execRetC (s : State) (cfg : Settings := settings) : Step := ifCond .c (ret · cfg) s

/-- RETI (R280). -/
def execReti (s : State) (cfg : Settings := settings) : Step :=
  ((ret s cfg).andThen fun _ s' => done { s' with ime := true }).outcome

/-- JP C,nn (R271). -/
def execJpCImm16 (nn : Word) (s : State) : Step := ifCond .c (fun s => done { s with pc := nn }) s

/-- CALL C,nn (R276). -/
def execCallCImm16 (nn : Word) (s : State) (cfg : Settings := settings) : Step := ifCond .c (call nn · cfg) s

/-- RST 18H (R281). -/
def execRst18 (s : State) (cfg : Settings := settings) : Step := (call (word 0x00 0x18) s cfg).outcome

/-- RST 20H (R281). -/
def execRst20 (s : State) (cfg : Settings := settings) : Step := (call (word 0x00 0x20) s cfg).outcome

/-- JP HL (R272). -/
def execJpHl (s : State) : Step := .next { s with pc := s.hl }

/-- RST 28H (R281). -/
def execRst28 (s : State) (cfg : Settings := settings) : Step := (call (word 0x00 0x28) s cfg).outcome

/-- RST 30H (R281). -/
def execRst30 (s : State) (cfg : Settings := settings) : Step := (call (word 0x00 0x30) s cfg).outcome

/-- RST 38H (R281). -/
def execRst38 (s : State) (cfg : Settings := settings) : Step := (call (word 0x00 0x38) s cfg).outcome

end Sys2Proof.Machine
end

