-- ==== Sys2Proof/Machine/Load16.lean ====
section
/-! DEFINITION. 16-bit loads and the stack instructions (43_load16_stack.md, R190 to R196). -/

namespace Sys2Proof.Machine

open Sys2Proof

/-- `LD (nn),SP` (R191): the low byte at `nn`, then the high byte at `nn + 1`. -/
def storeSp (nn : Word) (s : State) (cfg : Settings := settings) : Step :=
  ((writeByte nn (lo s.sp) s cfg).andThen fun _ s1 => writeByte (nn + 1) (hi s1.sp) s1 cfg).outcome

/-- `LD HL,SP+e` (R193): the flags from the low byte of SP and the raw byte; SP is not changed. -/
def loadHlSpRel (n : Byte) (s : State) (cfg : Settings := settings) : Step :=
  .next ((s.spRelFlags cfg.flagPredicates n).setHl (s.sp + sext8 n))

/-- `POP rp2` (R195, R196). -/
def popInto (p : StackPair) (s : State) (cfg : Settings := settings) : Step :=
  ((pop16 s cfg).andThen fun w s1 => done (s1.setStackPair p w)).outcome

/-- LD BC,nn (R190). -/
def execLdBcImm16 (nn : Word) (s : State) : Step := .next (s.setPair .bc nn)

/-- LD (nn),SP (R191). -/
def execLdAtImm16Sp (nn : Word) (s : State) (cfg : Settings := settings) : Step := storeSp nn s cfg

/-- LD DE,nn (R190). -/
def execLdDeImm16 (nn : Word) (s : State) : Step := .next (s.setPair .de nn)

/-- LD HL,nn (R190). -/
def execLdHlImm16 (nn : Word) (s : State) : Step := .next (s.setPair .hl nn)

/-- LD SP,nn (R190). -/
def execLdSpImm16 (nn : Word) (s : State) : Step := .next (s.setPair .sp nn)

/-- POP BC (R195). -/
def execPopBc (s : State) (cfg : Settings := settings) : Step := popInto .bc s cfg

/-- PUSH BC (R194). -/
def execPushBc (s : State) (cfg : Settings := settings) : Step := (push16 s.bc s cfg).outcome

/-- POP DE (R195). -/
def execPopDe (s : State) (cfg : Settings := settings) : Step := popInto .de s cfg

/-- PUSH DE (R194). -/
def execPushDe (s : State) (cfg : Settings := settings) : Step := (push16 s.de s cfg).outcome

/-- POP HL (R195). -/
def execPopHl (s : State) (cfg : Settings := settings) : Step := popInto .hl s cfg

/-- PUSH HL (R194). -/
def execPushHl (s : State) (cfg : Settings := settings) : Step := (push16 s.hl s cfg).outcome

/-- POP AF (R196). -/
def execPopAf (s : State) (cfg : Settings := settings) : Step := popInto .af s cfg

/-- PUSH AF (R194). -/
def execPushAf (s : State) (cfg : Settings := settings) : Step := (push16 s.af s cfg).outcome

/-- LD HL,SP+e (R193). -/
def execLdHlSpRel (n : Byte) (s : State) (cfg : Settings := settings) : Step := loadHlSpRel n s cfg

/-- LD SP,HL (R192). -/
def execLdSpHl (s : State) : Step := .next { s with sp := s.hl }

end Sys2Proof.Machine
end

