-- ==== Sys2Proof/Machine/Load8.lean ====
section
/-! DEFINITION. 8-bit loads and stores (42_load8.md, R160 to R181). None writes a flag. -/

namespace Sys2Proof.Machine

open Sys2Proof

/-- Put a byte into a register (R162 to R164). -/
def loadInto (r : Reg8) (v : Byte) (s : State) : State := s.setReg r v

/-- Load A from HL, then move HL by `delta` (R180, R181). -/
def loadThenHl (delta : Word) (s : State) (cfg : Settings := settings) : Step :=
  ((readByte s.hl s cfg).andThen fun v s1 =>
    let s2 := s1.setReg .a v
    done (s2.setHl (s2.hl + delta))).outcome

/-- Store A at HL, then move HL by `delta`; if the store raises, HL is not moved (R178, R179). -/
def storeThenHl (delta : Word) (s : State) (cfg : Settings := settings) : Step :=
  ((writeByte s.hl s.a s cfg).andThen fun _ s1 => done (s1.setHl (s1.hl + delta))).outcome

/-- LD (BC),A (R170). -/
def execLdAtBcA (s : State) (cfg : Settings := settings) : Step := storeMem s.bc s.a s cfg

/-- LD B,n (R163). -/
def execLdBImm (n : Byte) (s : State) : Step := fromImm (loadInto .b) n s

/-- LD A,(BC) (R168). -/
def execLdAAtBc (s : State) (cfg : Settings := settings) : Step := fromMem (loadInto .a) s.bc s cfg

/-- LD C,n (R163). -/
def execLdCImm (n : Byte) (s : State) : Step := fromImm (loadInto .c) n s

/-- LD (DE),A (R171). -/
def execLdAtDeA (s : State) (cfg : Settings := settings) : Step := storeMem s.de s.a s cfg

/-- LD D,n (R163). -/
def execLdDImm (n : Byte) (s : State) : Step := fromImm (loadInto .d) n s

/-- LD A,(DE) (R169). -/
def execLdAAtDe (s : State) (cfg : Settings := settings) : Step := fromMem (loadInto .a) s.de s cfg

/-- LD E,n (R163). -/
def execLdEImm (n : Byte) (s : State) : Step := fromImm (loadInto .e) n s

/-- LD (HL+),A (R178). -/
def execLdAtHlIncA (s : State) (cfg : Settings := settings) : Step := storeThenHl 1 s cfg

/-- LD H,n (R163). -/
def execLdHImm (n : Byte) (s : State) : Step := fromImm (loadInto .h) n s

/-- LD A,(HL+) (R180). -/
def execLdAAtHlInc (s : State) (cfg : Settings := settings) : Step := loadThenHl 1 s cfg

/-- LD L,n (R163). -/
def execLdLImm (n : Byte) (s : State) : Step := fromImm (loadInto .l) n s

/-- LD (HL-),A (R179). -/
def execLdAtHlDecA (s : State) (cfg : Settings := settings) : Step := storeThenHl (-1) s cfg

/-- LD (HL),n (R167). -/
def execLdAtHlImm (n : Byte) (s : State) (cfg : Settings := settings) : Step := storeMem s.hl n s cfg

/-- LD A,(HL-) (R181). -/
def execLdAAtHlDec (s : State) (cfg : Settings := settings) : Step := loadThenHl (-1) s cfg

/-- LD A,n (R163). -/
def execLdAImm (n : Byte) (s : State) : Step := fromImm (loadInto .a) n s

/-- LD B,B (R162). -/
def execLdBB (s : State) : Step := fromReg (loadInto .b) .b s

/-- LD B,C (R162). -/
def execLdBC (s : State) : Step := fromReg (loadInto .b) .c s

/-- LD B,D (R162). -/
def execLdBD (s : State) : Step := fromReg (loadInto .b) .d s

/-- LD B,E (R162). -/
def execLdBE (s : State) : Step := fromReg (loadInto .b) .e s

/-- LD B,H (R162). -/
def execLdBH (s : State) : Step := fromReg (loadInto .b) .h s

/-- LD B,L (R162). -/
def execLdBL (s : State) : Step := fromReg (loadInto .b) .l s

/-- LD B,(HL) (R164). -/
def execLdBAtHl (s : State) (cfg : Settings := settings) : Step := fromMem (loadInto .b) s.hl s cfg

/-- LD B,A (R162). -/
def execLdBA (s : State) : Step := fromReg (loadInto .b) .a s

/-- LD C,B (R162). -/
def execLdCB (s : State) : Step := fromReg (loadInto .c) .b s

/-- LD C,C (R162). -/
def execLdCC (s : State) : Step := fromReg (loadInto .c) .c s

/-- LD C,D (R162). -/
def execLdCD (s : State) : Step := fromReg (loadInto .c) .d s

/-- LD C,E (R162). -/
def execLdCE (s : State) : Step := fromReg (loadInto .c) .e s

/-- LD C,H (R162). -/
def execLdCH (s : State) : Step := fromReg (loadInto .c) .h s

/-- LD C,L (R162). -/
def execLdCL (s : State) : Step := fromReg (loadInto .c) .l s

/-- LD C,(HL) (R164). -/
def execLdCAtHl (s : State) (cfg : Settings := settings) : Step := fromMem (loadInto .c) s.hl s cfg

/-- LD C,A (R162). -/
def execLdCA (s : State) : Step := fromReg (loadInto .c) .a s

/-- LD D,B (R162). -/
def execLdDB (s : State) : Step := fromReg (loadInto .d) .b s

/-- LD D,C (R162). -/
def execLdDC (s : State) : Step := fromReg (loadInto .d) .c s

/-- LD D,D (R162). -/
def execLdDD (s : State) : Step := fromReg (loadInto .d) .d s

/-- LD D,E (R162). -/
def execLdDE (s : State) : Step := fromReg (loadInto .d) .e s

/-- LD D,H (R162). -/
def execLdDH (s : State) : Step := fromReg (loadInto .d) .h s

/-- LD D,L (R162). -/
def execLdDL (s : State) : Step := fromReg (loadInto .d) .l s

/-- LD D,(HL) (R164). -/
def execLdDAtHl (s : State) (cfg : Settings := settings) : Step := fromMem (loadInto .d) s.hl s cfg

/-- LD D,A (R162). -/
def execLdDA (s : State) : Step := fromReg (loadInto .d) .a s

/-- LD E,B (R162). -/
def execLdEB (s : State) : Step := fromReg (loadInto .e) .b s

/-- LD E,C (R162). -/
def execLdEC (s : State) : Step := fromReg (loadInto .e) .c s

/-- LD E,D (R162). -/
def execLdED (s : State) : Step := fromReg (loadInto .e) .d s

/-- LD E,E (R162). -/
def execLdEE (s : State) : Step := fromReg (loadInto .e) .e s

/-- LD E,H (R162). -/
def execLdEH (s : State) : Step := fromReg (loadInto .e) .h s

/-- LD E,L (R162). -/
def execLdEL (s : State) : Step := fromReg (loadInto .e) .l s

/-- LD E,(HL) (R164). -/
def execLdEAtHl (s : State) (cfg : Settings := settings) : Step := fromMem (loadInto .e) s.hl s cfg

/-- LD E,A (R162). -/
def execLdEA (s : State) : Step := fromReg (loadInto .e) .a s

/-- LD H,B (R162). -/
def execLdHB (s : State) : Step := fromReg (loadInto .h) .b s

/-- LD H,C (R162). -/
def execLdHC (s : State) : Step := fromReg (loadInto .h) .c s

/-- LD H,D (R162). -/
def execLdHD (s : State) : Step := fromReg (loadInto .h) .d s

/-- LD H,E (R162). -/
def execLdHE (s : State) : Step := fromReg (loadInto .h) .e s

/-- LD H,H (R162). -/
def execLdHH (s : State) : Step := fromReg (loadInto .h) .h s

/-- LD H,L (R162). -/
def execLdHL (s : State) : Step := fromReg (loadInto .h) .l s

/-- LD H,(HL) (R164). -/
def execLdHAtHl (s : State) (cfg : Settings := settings) : Step := fromMem (loadInto .h) s.hl s cfg

/-- LD H,A (R162). -/
def execLdHA (s : State) : Step := fromReg (loadInto .h) .a s

/-- LD L,B (R162). -/
def execLdLB (s : State) : Step := fromReg (loadInto .l) .b s

/-- LD L,C (R162). -/
def execLdLC (s : State) : Step := fromReg (loadInto .l) .c s

/-- LD L,D (R162). -/
def execLdLD (s : State) : Step := fromReg (loadInto .l) .d s

/-- LD L,E (R162). -/
def execLdLE (s : State) : Step := fromReg (loadInto .l) .e s

/-- LD L,H (R162). -/
def execLdLH (s : State) : Step := fromReg (loadInto .l) .h s

/-- LD L,L (R162). -/
def execLdLL (s : State) : Step := fromReg (loadInto .l) .l s

/-- LD L,(HL) (R164). -/
def execLdLAtHl (s : State) (cfg : Settings := settings) : Step := fromMem (loadInto .l) s.hl s cfg

/-- LD L,A (R162). -/
def execLdLA (s : State) : Step := fromReg (loadInto .l) .a s

/-- LD (HL),B (R165). -/
def execLdAtHlB (s : State) (cfg : Settings := settings) : Step := storeMem s.hl (s.reg .b) s cfg

/-- LD (HL),C (R165). -/
def execLdAtHlC (s : State) (cfg : Settings := settings) : Step := storeMem s.hl (s.reg .c) s cfg

/-- LD (HL),D (R165). -/
def execLdAtHlD (s : State) (cfg : Settings := settings) : Step := storeMem s.hl (s.reg .d) s cfg

/-- LD (HL),E (R165). -/
def execLdAtHlE (s : State) (cfg : Settings := settings) : Step := storeMem s.hl (s.reg .e) s cfg

/-- LD (HL),H (R165). -/
def execLdAtHlH (s : State) (cfg : Settings := settings) : Step := storeMem s.hl (s.reg .h) s cfg

/-- LD (HL),L (R165). -/
def execLdAtHlL (s : State) (cfg : Settings := settings) : Step := storeMem s.hl (s.reg .l) s cfg

/-- LD (HL),A (R165). -/
def execLdAtHlA (s : State) (cfg : Settings := settings) : Step := storeMem s.hl (s.reg .a) s cfg

/-- LD A,B (R162). -/
def execLdAB (s : State) : Step := fromReg (loadInto .a) .b s

/-- LD A,C (R162). -/
def execLdAC (s : State) : Step := fromReg (loadInto .a) .c s

/-- LD A,D (R162). -/
def execLdAD (s : State) : Step := fromReg (loadInto .a) .d s

/-- LD A,E (R162). -/
def execLdAE (s : State) : Step := fromReg (loadInto .a) .e s

/-- LD A,H (R162). -/
def execLdAH (s : State) : Step := fromReg (loadInto .a) .h s

/-- LD A,L (R162). -/
def execLdAL (s : State) : Step := fromReg (loadInto .a) .l s

/-- LD A,(HL) (R164). -/
def execLdAAtHl (s : State) (cfg : Settings := settings) : Step := fromMem (loadInto .a) s.hl s cfg

/-- LD A,A (R162). -/
def execLdAA (s : State) : Step := fromReg (loadInto .a) .a s

/-- LDH (n),A (R175). -/
def execLdhAtImmA (n : Byte) (s : State) (cfg : Settings := settings) : Step := storeMem (ioAddr n) s.a s cfg

/-- LD (C),A (R177). -/
def execLdAtCA (s : State) (cfg : Settings := settings) : Step := storeMem (ioAddr s.c) s.a s cfg

/-- LD (nn),A (R173). -/
def execLdAtImm16A (nn : Word) (s : State) (cfg : Settings := settings) : Step := storeMem nn s.a s cfg

/-- LDH A,(n) (R174). -/
def execLdhAAtImm (n : Byte) (s : State) (cfg : Settings := settings) : Step := fromMem (loadInto .a) (ioAddr n) s cfg

/-- LD A,(C) (R176). -/
def execLdAAtC (s : State) (cfg : Settings := settings) : Step := fromMem (loadInto .a) (ioAddr s.c) s cfg

/-- LD A,(nn) (R172). -/
def execLdAAtImm16 (nn : Word) (s : State) (cfg : Settings := settings) : Step := fromMem (loadInto .a) nn s cfg

end Sys2Proof.Machine
end

