-- ==== Sys2Proof/Machine/System.lean ====
section
/-! DEFINITION. HALT, STOP, DI, EI and the unassigned opcodes (48_system.md, R320 to R327). -/

namespace Sys2Proof.Machine

open Sys2Proof

/-- An unassigned byte, fetched as an opcode (R325): its address is one before PC, nothing else has changed. -/
def notImplemented (op : Byte) (s : State) : Step :=
  (raise (α := Unit) (.instructionNotImplemented op (s.pc - 1)) s).outcome

/-- STOP (R321). -/
def execStop (_n : Byte) (s : State) : Step := .next { s with halted := true }

/-- HALT (R320). -/
def execHalt (s : State) : Step := .next { s with halted := true }

/-- UNDEFINED_D3 (R325). -/
def execUndefinedD3 (s : State) : Step := notImplemented 0xD3 s

/-- UNDEFINED_DB (R325). -/
def execUndefinedDB (s : State) : Step := notImplemented 0xDB s

/-- UNDEFINED_DD (R325). -/
def execUndefinedDD (s : State) : Step := notImplemented 0xDD s

/-- UNDEFINED_E3 (R325). -/
def execUndefinedE3 (s : State) : Step := notImplemented 0xE3 s

/-- UNDEFINED_E4 (R325). -/
def execUndefinedE4 (s : State) : Step := notImplemented 0xE4 s

/-- UNDEFINED_EB (R325). -/
def execUndefinedEB (s : State) : Step := notImplemented 0xEB s

/-- UNDEFINED_EC (R325). -/
def execUndefinedEC (s : State) : Step := notImplemented 0xEC s

/-- UNDEFINED_ED (R325). -/
def execUndefinedED (s : State) : Step := notImplemented 0xED s

/-- DI (R322). -/
def execDi (s : State) : Step := .next { s with ime := false }

/-- UNDEFINED_F4 (R325). -/
def execUndefinedF4 (s : State) : Step := notImplemented 0xF4 s

/-- EI (R323). -/
def execEi (s : State) : Step := .next { s with ime := true }

/-- UNDEFINED_FC (R325). -/
def execUndefinedFC (s : State) : Step := notImplemented 0xFC s

/-- UNDEFINED_FD (R325). -/
def execUndefinedFD (s : State) : Step := notImplemented 0xFD s

end Sys2Proof.Machine
end

