-- ==== Sys2Proof/Machine/ExecIn.lean ====
section
/-! DEFINITION. What every instruction does with given settings: the meanings that exec calls, in the same order, with the
settings handed to each one that depends on a parameter. -/

namespace Sys2Proof.Machine

open Sys2Proof

/-- The effect of an instruction (R125) with given settings. -/
def execIn (cfg : Settings) (i : Instr) (s : State) : Step :=
  match i with
  | .ldBcImm16 nn => execLdBcImm16 nn s
  | .ldBImm n => execLdBImm n s
  | .ldAtImm16Sp nn => execLdAtImm16Sp nn s cfg
  | .ldCImm n => execLdCImm n s
  | .stop n => execStop n s
  | .ldDeImm16 nn => execLdDeImm16 nn s
  | .ldDImm n => execLdDImm n s
  | .jrRel n => execJrRel n s
  | .ldEImm n => execLdEImm n s
  | .jrNzRel n => execJrNzRel n s
  | .ldHlImm16 nn => execLdHlImm16 nn s
  | .ldHImm n => execLdHImm n s
  | .jrZRel n => execJrZRel n s
  | .ldLImm n => execLdLImm n s
  | .jrNcRel n => execJrNcRel n s
  | .ldSpImm16 nn => execLdSpImm16 nn s
  | .ldAtHlImm n => execLdAtHlImm n s cfg
  | .jrCRel n => execJrCRel n s
  | .ldAImm n => execLdAImm n s
  | .jpNzImm16 nn => execJpNzImm16 nn s
  | .jpImm16 nn => execJpImm16 nn s
  | .callNzImm16 nn => execCallNzImm16 nn s cfg
  | .addAImm n => execAddAImm n s cfg
  | .jpZImm16 nn => execJpZImm16 nn s
  | .callZImm16 nn => execCallZImm16 nn s cfg
  | .callImm16 nn => execCallImm16 nn s cfg
  | .adcAImm n => execAdcAImm n s cfg
  | .jpNcImm16 nn => execJpNcImm16 nn s
  | .callNcImm16 nn => execCallNcImm16 nn s cfg
  | .subAImm n => execSubAImm n s cfg
  | .jpCImm16 nn => execJpCImm16 nn s
  | .callCImm16 nn => execCallCImm16 nn s cfg
  | .sbcAImm n => execSbcAImm n s cfg
  | .ldhAtImmA n => execLdhAtImmA n s cfg
  | .andAImm n => execAndAImm n s
  | .addSpRel n => execAddSpRel n s cfg
  | .ldAtImm16A nn => execLdAtImm16A nn s cfg
  | .xorAImm n => execXorAImm n s
  | .ldhAAtImm n => execLdhAAtImm n s cfg
  | .orAImm n => execOrAImm n s
  | .ldHlSpRel n => execLdHlSpRel n s cfg
  | .ldAAtImm16 nn => execLdAAtImm16 nn s cfg
  | .cpAImm n => execCpAImm n s cfg
  | .nop => execNop s
  | .ldAtBcA => execLdAtBcA s cfg
  | .incBc => execIncBc s
  | .incB => execIncB s cfg
  | .decB => execDecB s cfg
  | .rlca => execRlca s cfg
  | .addHlBc => execAddHlBc s
  | .ldAAtBc => execLdAAtBc s cfg
  | .decBc => execDecBc s
  | .incC => execIncC s cfg
  | .decC => execDecC s cfg
  | .rrca => execRrca s cfg
  | .ldAtDeA => execLdAtDeA s cfg
  | .incDe => execIncDe s
  | .incD => execIncD s cfg
  | .decD => execDecD s cfg
  | .rla => execRla s cfg
  | .addHlDe => execAddHlDe s
  | .ldAAtDe => execLdAAtDe s cfg
  | .decDe => execDecDe s
  | .incE => execIncE s cfg
  | .decE => execDecE s cfg
  | .rra => execRra s cfg
  | .ldAtHlIncA => execLdAtHlIncA s cfg
  | .incHl => execIncHl s
  | .incH => execIncH s cfg
  | .decH => execDecH s cfg
  | .daa => execDaa s
  | .addHlHl => execAddHlHl s
  | .ldAAtHlInc => execLdAAtHlInc s cfg
  | .decHl => execDecHl s
  | .incL => execIncL s cfg
  | .decL => execDecL s cfg
  | .cpl => execCpl s
  | .ldAtHlDecA => execLdAtHlDecA s cfg
  | .incSp => execIncSp s
  | .incAtHl => execIncAtHl s cfg
  | .decAtHl => execDecAtHl s cfg
  | .scf => execScf s
  | .addHlSp => execAddHlSp s
  | .ldAAtHlDec => execLdAAtHlDec s cfg
  | .decSp => execDecSp s
  | .incA => execIncA s cfg
  | .decA => execDecA s cfg
  | .ccf => execCcf s
  | .ldBB => execLdBB s
  | .ldBC => execLdBC s
  | .ldBD => execLdBD s
  | .ldBE => execLdBE s
  | .ldBH => execLdBH s
  | .ldBL => execLdBL s
  | .ldBAtHl => execLdBAtHl s cfg
  | .ldBA => execLdBA s
  | .ldCB => execLdCB s
  | .ldCC => execLdCC s
  | .ldCD => execLdCD s
  | .ldCE => execLdCE s
  | .ldCH => execLdCH s
  | .ldCL => execLdCL s
  | .ldCAtHl => execLdCAtHl s cfg
  | .ldCA => execLdCA s
  | .ldDB => execLdDB s
  | .ldDC => execLdDC s
  | .ldDD => execLdDD s
  | .ldDE => execLdDE s
  | .ldDH => execLdDH s
  | .ldDL => execLdDL s
  | .ldDAtHl => execLdDAtHl s cfg
  | .ldDA => execLdDA s
  | .ldEB => execLdEB s
  | .ldEC => execLdEC s
  | .ldED => execLdED s
  | .ldEE => execLdEE s
  | .ldEH => execLdEH s
  | .ldEL => execLdEL s
  | .ldEAtHl => execLdEAtHl s cfg
  | .ldEA => execLdEA s
  | .ldHB => execLdHB s
  | .ldHC => execLdHC s
  | .ldHD => execLdHD s
  | .ldHE => execLdHE s
  | .ldHH => execLdHH s
  | .ldHL => execLdHL s
  | .ldHAtHl => execLdHAtHl s cfg
  | .ldHA => execLdHA s
  | .ldLB => execLdLB s
  | .ldLC => execLdLC s
  | .ldLD => execLdLD s
  | .ldLE => execLdLE s
  | .ldLH => execLdLH s
  | .ldLL => execLdLL s
  | .ldLAtHl => execLdLAtHl s cfg
  | .ldLA => execLdLA s
  | .ldAtHlB => execLdAtHlB s cfg
  | .ldAtHlC => execLdAtHlC s cfg
  | .ldAtHlD => execLdAtHlD s cfg
  | .ldAtHlE => execLdAtHlE s cfg
  | .ldAtHlH => execLdAtHlH s cfg
  | .ldAtHlL => execLdAtHlL s cfg
  | .halt => execHalt s
  | .ldAtHlA => execLdAtHlA s cfg
  | .ldAB => execLdAB s
  | .ldAC => execLdAC s
  | .ldAD => execLdAD s
  | .ldAE => execLdAE s
  | .ldAH => execLdAH s
  | .ldAL => execLdAL s
  | .ldAAtHl => execLdAAtHl s cfg
  | .ldAA => execLdAA s
  | .addAB => execAddAB s cfg
  | .addAC => execAddAC s cfg
  | .addAD => execAddAD s cfg
  | .addAE => execAddAE s cfg
  | .addAH => execAddAH s cfg
  | .addAL => execAddAL s cfg
  | .addAAtHl => execAddAAtHl s cfg
  | .addAA => execAddAA s cfg
  | .adcAB => execAdcAB s cfg
  | .adcAC => execAdcAC s cfg
  | .adcAD => execAdcAD s cfg
  | .adcAE => execAdcAE s cfg
  | .adcAH => execAdcAH s cfg
  | .adcAL => execAdcAL s cfg
  | .adcAAtHl => execAdcAAtHl s cfg
  | .adcAA => execAdcAA s cfg
  | .subAB => execSubAB s cfg
  | .subAC => execSubAC s cfg
  | .subAD => execSubAD s cfg
  | .subAE => execSubAE s cfg
  | .subAH => execSubAH s cfg
  | .subAL => execSubAL s cfg
  | .subAAtHl => execSubAAtHl s cfg
  | .subAA => execSubAA s cfg
  | .sbcAB => execSbcAB s cfg
  | .sbcAC => execSbcAC s cfg
  | .sbcAD => execSbcAD s cfg
  | .sbcAE => execSbcAE s cfg
  | .sbcAH => execSbcAH s cfg
  | .sbcAL => execSbcAL s cfg
  | .sbcAAtHl => execSbcAAtHl s cfg
  | .sbcAA => execSbcAA s cfg
  | .andAB => execAndAB s
  | .andAC => execAndAC s
  | .andAD => execAndAD s
  | .andAE => execAndAE s
  | .andAH => execAndAH s
  | .andAL => execAndAL s
  | .andAAtHl => execAndAAtHl s cfg
  | .andAA => execAndAA s
  | .xorAB => execXorAB s
  | .xorAC => execXorAC s
  | .xorAD => execXorAD s
  | .xorAE => execXorAE s
  | .xorAH => execXorAH s
  | .xorAL => execXorAL s
  | .xorAAtHl => execXorAAtHl s cfg
  | .xorAA => execXorAA s
  | .orAB => execOrAB s
  | .orAC => execOrAC s
  | .orAD => execOrAD s
  | .orAE => execOrAE s
  | .orAH => execOrAH s
  | .orAL => execOrAL s
  | .orAAtHl => execOrAAtHl s cfg
  | .orAA => execOrAA s
  | .cpAB => execCpAB s cfg
  | .cpAC => execCpAC s cfg
  | .cpAD => execCpAD s cfg
  | .cpAE => execCpAE s cfg
  | .cpAH => execCpAH s cfg
  | .cpAL => execCpAL s cfg
  | .cpAAtHl => execCpAAtHl s cfg
  | .cpAA => execCpAA s cfg
  | .retNz => execRetNz s cfg
  | .popBc => execPopBc s cfg
  | .pushBc => execPushBc s cfg
  | .rst00 => execRst00 s cfg
  | .retZ => execRetZ s cfg
  | .ret => execRet s cfg
  | .rst08 => execRst08 s cfg
  | .retNc => execRetNc s cfg
  | .popDe => execPopDe s cfg
  | .undefinedD3 => execUndefinedD3 s
  | .pushDe => execPushDe s cfg
  | .rst10 => execRst10 s cfg
  | .retC => execRetC s cfg
  | .reti => execReti s cfg
  | .undefinedDB => execUndefinedDB s
  | .undefinedDD => execUndefinedDD s
  | .rst18 => execRst18 s cfg
  | .popHl => execPopHl s cfg
  | .ldAtCA => execLdAtCA s cfg
  | .undefinedE3 => execUndefinedE3 s
  | .undefinedE4 => execUndefinedE4 s
  | .pushHl => execPushHl s cfg
  | .rst20 => execRst20 s cfg
  | .jpHl => execJpHl s
  | .undefinedEB => execUndefinedEB s
  | .undefinedEC => execUndefinedEC s
  | .undefinedED => execUndefinedED s
  | .rst28 => execRst28 s cfg
  | .popAf => execPopAf s cfg
  | .ldAAtC => execLdAAtC s cfg
  | .di => execDi s
  | .undefinedF4 => execUndefinedF4 s
  | .pushAf => execPushAf s cfg
  | .rst30 => execRst30 s cfg
  | .ldSpHl => execLdSpHl s
  | .ei => execEi s
  | .undefinedFC => execUndefinedFC s
  | .undefinedFD => execUndefinedFD s
  | .rst38 => execRst38 s cfg
  | .rlcB => execRlcB s
  | .rlcC => execRlcC s
  | .rlcD => execRlcD s
  | .rlcE => execRlcE s
  | .rlcH => execRlcH s
  | .rlcL => execRlcL s
  | .rlcAtHl => execRlcAtHl s cfg
  | .rlcA => execRlcA s
  | .rrcB => execRrcB s
  | .rrcC => execRrcC s
  | .rrcD => execRrcD s
  | .rrcE => execRrcE s
  | .rrcH => execRrcH s
  | .rrcL => execRrcL s
  | .rrcAtHl => execRrcAtHl s cfg
  | .rrcA => execRrcA s
  | .rlB => execRlB s
  | .rlC => execRlC s
  | .rlD => execRlD s
  | .rlE => execRlE s
  | .rlH => execRlH s
  | .rlL => execRlL s
  | .rlAtHl => execRlAtHl s cfg
  | .rlA => execRlA s
  | .rrB => execRrB s
  | .rrC => execRrC s
  | .rrD => execRrD s
  | .rrE => execRrE s
  | .rrH => execRrH s
  | .rrL => execRrL s
  | .rrAtHl => execRrAtHl s cfg
  | .rrA => execRrA s
  | .slaB => execSlaB s
  | .slaC => execSlaC s
  | .slaD => execSlaD s
  | .slaE => execSlaE s
  | .slaH => execSlaH s
  | .slaL => execSlaL s
  | .slaAtHl => execSlaAtHl s cfg
  | .slaA => execSlaA s
  | .sraB => execSraB s
  | .sraC => execSraC s
  | .sraD => execSraD s
  | .sraE => execSraE s
  | .sraH => execSraH s
  | .sraL => execSraL s
  | .sraAtHl => execSraAtHl s cfg
  | .sraA => execSraA s
  | .swapB => execSwapB s
  | .swapC => execSwapC s
  | .swapD => execSwapD s
  | .swapE => execSwapE s
  | .swapH => execSwapH s
  | .swapL => execSwapL s
  | .swapAtHl => execSwapAtHl s cfg
  | .swapA => execSwapA s
  | .srlB => execSrlB s
  | .srlC => execSrlC s
  | .srlD => execSrlD s
  | .srlE => execSrlE s
  | .srlH => execSrlH s
  | .srlL => execSrlL s
  | .srlAtHl => execSrlAtHl s cfg
  | .srlA => execSrlA s
  | .bit0B => execBit0B s cfg
  | .bit0C => execBit0C s cfg
  | .bit0D => execBit0D s cfg
  | .bit0E => execBit0E s cfg
  | .bit0H => execBit0H s cfg
  | .bit0L => execBit0L s cfg
  | .bit0AtHl => execBit0AtHl s cfg
  | .bit0A => execBit0A s cfg
  | .bit1B => execBit1B s cfg
  | .bit1C => execBit1C s cfg
  | .bit1D => execBit1D s cfg
  | .bit1E => execBit1E s cfg
  | .bit1H => execBit1H s cfg
  | .bit1L => execBit1L s cfg
  | .bit1AtHl => execBit1AtHl s cfg
  | .bit1A => execBit1A s cfg
  | .bit2B => execBit2B s cfg
  | .bit2C => execBit2C s cfg
  | .bit2D => execBit2D s cfg
  | .bit2E => execBit2E s cfg
  | .bit2H => execBit2H s cfg
  | .bit2L => execBit2L s cfg
  | .bit2AtHl => execBit2AtHl s cfg
  | .bit2A => execBit2A s cfg
  | .bit3B => execBit3B s cfg
  | .bit3C => execBit3C s cfg
  | .bit3D => execBit3D s cfg
  | .bit3E => execBit3E s cfg
  | .bit3H => execBit3H s cfg
  | .bit3L => execBit3L s cfg
  | .bit3AtHl => execBit3AtHl s cfg
  | .bit3A => execBit3A s cfg
  | .bit4B => execBit4B s cfg
  | .bit4C => execBit4C s cfg
  | .bit4D => execBit4D s cfg
  | .bit4E => execBit4E s cfg
  | .bit4H => execBit4H s cfg
  | .bit4L => execBit4L s cfg
  | .bit4AtHl => execBit4AtHl s cfg
  | .bit4A => execBit4A s cfg
  | .bit5B => execBit5B s cfg
  | .bit5C => execBit5C s cfg
  | .bit5D => execBit5D s cfg
  | .bit5E => execBit5E s cfg
  | .bit5H => execBit5H s cfg
  | .bit5L => execBit5L s cfg
  | .bit5AtHl => execBit5AtHl s cfg
  | .bit5A => execBit5A s cfg
  | .bit6B => execBit6B s cfg
  | .bit6C => execBit6C s cfg
  | .bit6D => execBit6D s cfg
  | .bit6E => execBit6E s cfg
  | .bit6H => execBit6H s cfg
  | .bit6L => execBit6L s cfg
  | .bit6AtHl => execBit6AtHl s cfg
  | .bit6A => execBit6A s cfg
  | .bit7B => execBit7B s cfg
  | .bit7C => execBit7C s cfg
  | .bit7D => execBit7D s cfg
  | .bit7E => execBit7E s cfg
  | .bit7H => execBit7H s cfg
  | .bit7L => execBit7L s cfg
  | .bit7AtHl => execBit7AtHl s cfg
  | .bit7A => execBit7A s cfg
  | .res0B => execRes0B s cfg
  | .res0C => execRes0C s cfg
  | .res0D => execRes0D s cfg
  | .res0E => execRes0E s cfg
  | .res0H => execRes0H s cfg
  | .res0L => execRes0L s cfg
  | .res0AtHl => execRes0AtHl s cfg
  | .res0A => execRes0A s cfg
  | .res1B => execRes1B s cfg
  | .res1C => execRes1C s cfg
  | .res1D => execRes1D s cfg
  | .res1E => execRes1E s cfg
  | .res1H => execRes1H s cfg
  | .res1L => execRes1L s cfg
  | .res1AtHl => execRes1AtHl s cfg
  | .res1A => execRes1A s cfg
  | .res2B => execRes2B s cfg
  | .res2C => execRes2C s cfg
  | .res2D => execRes2D s cfg
  | .res2E => execRes2E s cfg
  | .res2H => execRes2H s cfg
  | .res2L => execRes2L s cfg
  | .res2AtHl => execRes2AtHl s cfg
  | .res2A => execRes2A s cfg
  | .res3B => execRes3B s cfg
  | .res3C => execRes3C s cfg
  | .res3D => execRes3D s cfg
  | .res3E => execRes3E s cfg
  | .res3H => execRes3H s cfg
  | .res3L => execRes3L s cfg
  | .res3AtHl => execRes3AtHl s cfg
  | .res3A => execRes3A s cfg
  | .res4B => execRes4B s cfg
  | .res4C => execRes4C s cfg
  | .res4D => execRes4D s cfg
  | .res4E => execRes4E s cfg
  | .res4H => execRes4H s cfg
  | .res4L => execRes4L s cfg
  | .res4AtHl => execRes4AtHl s cfg
  | .res4A => execRes4A s cfg
  | .res5B => execRes5B s cfg
  | .res5C => execRes5C s cfg
  | .res5D => execRes5D s cfg
  | .res5E => execRes5E s cfg
  | .res5H => execRes5H s cfg
  | .res5L => execRes5L s cfg
  | .res5AtHl => execRes5AtHl s cfg
  | .res5A => execRes5A s cfg
  | .res6B => execRes6B s cfg
  | .res6C => execRes6C s cfg
  | .res6D => execRes6D s cfg
  | .res6E => execRes6E s cfg
  | .res6H => execRes6H s cfg
  | .res6L => execRes6L s cfg
  | .res6AtHl => execRes6AtHl s cfg
  | .res6A => execRes6A s cfg
  | .res7B => execRes7B s cfg
  | .res7C => execRes7C s cfg
  | .res7D => execRes7D s cfg
  | .res7E => execRes7E s cfg
  | .res7H => execRes7H s cfg
  | .res7L => execRes7L s cfg
  | .res7AtHl => execRes7AtHl s cfg
  | .res7A => execRes7A s cfg
  | .set0B => execSet0B s cfg
  | .set0C => execSet0C s cfg
  | .set0D => execSet0D s cfg
  | .set0E => execSet0E s cfg
  | .set0H => execSet0H s cfg
  | .set0L => execSet0L s cfg
  | .set0AtHl => execSet0AtHl s cfg
  | .set0A => execSet0A s cfg
  | .set1B => execSet1B s cfg
  | .set1C => execSet1C s cfg
  | .set1D => execSet1D s cfg
  | .set1E => execSet1E s cfg
  | .set1H => execSet1H s cfg
  | .set1L => execSet1L s cfg
  | .set1AtHl => execSet1AtHl s cfg
  | .set1A => execSet1A s cfg
  | .set2B => execSet2B s cfg
  | .set2C => execSet2C s cfg
  | .set2D => execSet2D s cfg
  | .set2E => execSet2E s cfg
  | .set2H => execSet2H s cfg
  | .set2L => execSet2L s cfg
  | .set2AtHl => execSet2AtHl s cfg
  | .set2A => execSet2A s cfg
  | .set3B => execSet3B s cfg
  | .set3C => execSet3C s cfg
  | .set3D => execSet3D s cfg
  | .set3E => execSet3E s cfg
  | .set3H => execSet3H s cfg
  | .set3L => execSet3L s cfg
  | .set3AtHl => execSet3AtHl s cfg
  | .set3A => execSet3A s cfg
  | .set4B => execSet4B s cfg
  | .set4C => execSet4C s cfg
  | .set4D => execSet4D s cfg
  | .set4E => execSet4E s cfg
  | .set4H => execSet4H s cfg
  | .set4L => execSet4L s cfg
  | .set4AtHl => execSet4AtHl s cfg
  | .set4A => execSet4A s cfg
  | .set5B => execSet5B s cfg
  | .set5C => execSet5C s cfg
  | .set5D => execSet5D s cfg
  | .set5E => execSet5E s cfg
  | .set5H => execSet5H s cfg
  | .set5L => execSet5L s cfg
  | .set5AtHl => execSet5AtHl s cfg
  | .set5A => execSet5A s cfg
  | .set6B => execSet6B s cfg
  | .set6C => execSet6C s cfg
  | .set6D => execSet6D s cfg
  | .set6E => execSet6E s cfg
  | .set6H => execSet6H s cfg
  | .set6L => execSet6L s cfg
  | .set6AtHl => execSet6AtHl s cfg
  | .set6A => execSet6A s cfg
  | .set7B => execSet7B s cfg
  | .set7C => execSet7C s cfg
  | .set7D => execSet7D s cfg
  | .set7E => execSet7E s cfg
  | .set7H => execSet7H s cfg
  | .set7L => execSet7L s cfg
  | .set7AtHl => execSet7AtHl s cfg
  | .set7A => execSet7A s cfg

/-- With the model's settings it is exec. -/
theorem execIn_settings (i : Instr) (s : State) : execIn settings i s = exec i s := by
  cases i <;> rfl

end Sys2Proof.Machine
end

