-- ==== Sys2Proof/Machine/Fetch.lean ====
section
/-! DEFINITION. The parts of a step around the instruction's effect (40_dispatch_clocks.md): fetching and decoding,
charging the cycles to the clocks and the GPU, and the order of the whole step (R129). -/

namespace Sys2Proof.Machine

open Sys2Proof

/-- Fetch and decode the instruction at PC with all its immediate bytes (R122 to R124, R93): PC
ends past its last byte. A table miss raises before any immediate is read (R378). -/
def fetchInstr (s : State) (cfg : Settings := settings) : Res Instr :=
  (fetch8 s cfg).andThen fun op s1 =>
    match baseEntry op with
    | .unassigned i => .ok i s1
    | .escapeCb =>
      (fetch8 s1 cfg).andThen fun op2 s2 =>
        if cfg.implSets.cb op2 then .ok (cbInstr op2) s2 else raise (.instructionNotImplemented op2 s1.pc) s2
    | .plain i => if cfg.implSets.base op then .ok i s1 else raise (.instructionNotImplemented op s.pc) s1
    | .imm8 make =>
      if cfg.implSets.base op then (fetch8 s1 cfg).andThen fun n s2 => .ok (make n) s2
      else raise (.instructionNotImplemented op s.pc) s1
    | .imm16 make =>
      if cfg.implSets.base op then
        (fetch8 s1 cfg).andThen fun low s2 => (fetch8 s2 cfg).andThen fun high s3 => .ok (make (word high low)) s3
      else raise (.instructionNotImplemented op s.pc) s1

/-- The cycles a step charges (R126). -/
def cyclesCharged (i : Instr) (notTaken : Bool) (cfg : Settings := settings) : Nat :=
  if notTaken then (cfg.cost i).notTaken.getD (cfg.cost i).cycles else (cfg.cost i).cycles

/-- The two GPU calls of a step (R128). -/
def driveGpu (units : Nat) (s : State) : State := { s with gpu := (s.gpu.advance units).check s.mem }

/-- The end of a step (R126 to R128): the cycles, the flag cleared, the clocks, the GPU. -/
def account (i : Instr) (s : State) (cfg : Settings := settings) : State :=
  let cycles := cyclesCharged i s.notTaken cfg
  driveGpu (cycles / 4)
    { s with notTaken := false, mClock := s.mClock + cycles, tClock := s.tClock + cycles / 4 }

/-- The whole step (R121, R129) over a given meaning of the instructions: a raise ends it where it happens, so a faulting
step charges nothing (R130). -/
def runStep (effect : Instr → State → Step) (s : State) (cfg : Settings := settings) : Step :=
  match s.fault with
  | some record => .fault (.noStepFaulted record)
  | none =>
    if s.halted then .fault .noStepHalted
    else
      match fetchInstr s cfg with
      | .raised record left => .fault (.raised record left)
      | .ok i s1 =>
        match effect i s1 with
        | .next s2 => .next (account i s2 cfg)
        | .fault r => .fault r
        | .refused r => .refused r

end Sys2Proof.Machine
end

