-- ==== Sys2Proof/Machine/Step.lean ====
section
/-! DEFINITION. One step of the machine (R120, R129), and the placing of an instruction for the host's check. -/

namespace Sys2Proof.Machine

open Sys2Proof

/-- `step()` (R129). -/
def step (s : State) : Host.Outcome State Fault Refusal := runStep exec s

/-- `step()` of a machine with other settings of the parameters (R6 to R12, R14, R326, R340). -/
def stepIn (cfg : Settings) (s : State) : Host.Outcome State Fault Refusal := runStep (execIn cfg) s cfg

/-- The state with a table row's bits stored where the next fetch reads (log entries 6 and 7). -/
def State.withFetchWord (s : State) (nbits w : Nat) : State := placeBytes s.pc (tableBytes nbits w) s

end Sys2Proof.Machine
end

