-- ==== Sys2Proof/Machine/Loader.lean ====
section
/-! DEFINITION. Reset and the loading of the two images, the host's actions before the first step (R400 to R409). -/

namespace Sys2Proof.Machine

open Sys2Proof

/-- `loadBootstrap(bytes)` (R407): at most 256 bytes; a shorter image leaves the rest of the BIOS as reset left it. -/
def loadBootstrap (bytes : List Byte) (s : State) : Res Unit :=
  if bytes.length > 256 then raise (.romFileSize 256 bytes.length) s
  else done { s with bios := Memory.writeList s.bios 0 bytes }

/-- `loadRom(bytes)` (R408): the first 16 KiB into ROM0, then, for cartridge type 0 only, the next 16 KiB into ROM1;
ROM0 is already filled when the fault is raised, and bytes from 0x8000 on are ignored. -/
def loadRom (bytes : List Byte) (s : State) : Res Unit :=
  let s1 := { s with mem := Memory.writeList s.mem 0 (bytes.take 0x4000) }
  if bytes.getD 0x147 0x00 ≠ 0x00 then raise .mapperNotImplemented s1
  else done { s1 with mem := Memory.writeList s1.mem 0x4000 ((bytes.drop 0x4000).take 0x4000) }

/-- The host's reset (R400): applied to any state, it leaves nothing of it. -/
def hostReset (_s : State) : State := State.reset

/-- The launch order (R401, R409): reset, then the bootstrap, then the ROM if there is one. -/
def launch (bootstrap : List Byte) (rom : Option (List Byte)) : Res Unit :=
  (loadBootstrap bootstrap State.reset).andThen fun _ s1 =>
    match rom with
    | none => done s1
    | some bytes => loadRom bytes s1

end Sys2Proof.Machine
end

