-- ==== Sys2Proof/WellFormed.lean ====
section
/-! DEFINITION. Which instructions are well formed: those whose opcode byte has an entry in the implemented tables
(R6, R98, R100). Every operand value is admitted (R93, R99). -/

namespace Sys2Proof

/-- Well-formed for a given pair of sets `IMPL_BASE`, `IMPL_CB`: the looked-up byte is in its set (R100). -/
def Instr.wellFormedIn (sets : ImplSets) (i : Instr) : Bool :=
  match encode i with
  | [] => false
  | op :: rest =>
    if op = 0xCB then
      match rest with
      | [] => false
      | op2 :: _ => sets.cb op2
    else sets.base op

/-- Well-formed for the model's own sets. -/
def Instr.wellFormed (i : Instr) : Bool := i.wellFormedIn implSets

end Sys2Proof
end

