-- ==== Sys2Proof/Safety.lean ====
section
/-! DEFINITION. The terms claims are stated in: which addresses no access answers (R372), the invariants that hold between
steps (R26, R37, R339, R422), and a run that ends successfully (R412). -/

namespace Sys2Proof.Safety

open Sys2Proof Sys2Proof.Machine

/-- The addresses of the GPU window that the default `GPU_REGS` does not list, 0xFF50 left aside (R340, R372 (c)). -/
def unlistedGpuAddress (addr : Word) : Bool :=
  let a := addr.toNat
  a == 0xFF45 || a == 0xFF46 || (decide (0xFF48 ≤ a) && decide (a ≤ 0xFF4F)) ||
    (decide (0xFF51 ≤ a) && decide (a ≤ 0xFF7F))

/-- The GPU register window: 0xFF40 to 0xFF7F without the BIOS latch (R71, R340). -/
def inGpuWindow (addr : Word) : Prop := 0xFF40 ≤ addr.toNat ∧ addr.toNat ≤ 0xFF7F ∧ addr ≠ 0xFF50

/-- The spec's settings with another `GPU_REGS` (R340). -/
def withGpuRegs (regs : GpuRegs) : Settings := { settings with gpuRegs := regs }

/-- 0xFF03 to 0xFF3F (R372 (a)). -/
def undefinedIoAddress (addr : Word) : Bool :=
  let a := addr.toNat
  decide (0xFF03 ≤ a) && decide (a ≤ 0xFF3F)

/-- The addresses whose read raises `MemoryAccess` (R372 (a), (b), (c)). -/
def readFaults (addr : Word) : Bool :=
  undefinedIoAddress addr || unlistedGpuAddress addr || addr == 0xFF01 || addr == 0xFF50

/-- The addresses whose write raises `MemoryAccess` with `ROM_WRITE = drop` (R372 (a), (c)). -/
def writeFaults (addr : Word) : Bool := undefinedIoAddress addr || unlistedGpuAddress addr

/-- Two bus addresses name the same stored byte: they are equal, or one is the echo of the other (R62). -/
def sameByte (a b : Word) : Prop :=
  a = b ∨ (0xE000 ≤ b.toNat ∧ b.toNat ≤ 0xFDFF ∧ b.toNat = a.toNat + 0x2000) ∨
    (0xE000 ≤ a.toNat ∧ a.toNat ≤ 0xFDFF ∧ a.toNat = b.toNat + 0x2000)

/-- A store to `a` can change what a read of `b` gives: the same byte, or the BIOS latch, which uncovers 0x0000 to
0x00FF (R69, R76). -/
def storeReaches (a b : Word) : Prop := sameByte a b ∨ (a = 0xFF50 ∧ b.toNat ≤ 0x00FF)

/-- 144 rows of 160 cells (R37). -/
def frameShape (rows : List (List (BitVec 2))) : Prop := rows.length = 144 ∧ ∀ row ∈ rows, row.length = 160

/-- What holds between steps in every reachable unfaulted state. -/
structure Inv (s : State) : Prop where
  /-- The low nibble of F is 0 (R26). -/
  lowNibble : s.f &&& 0x0F = 0
  /-- The transient flag is clear (R33). -/
  notTaken : s.notTaken = false
  /-- The two clocks keep their ratio (R422). -/
  clocks : s.mClock = 4 * s.tClock
  /-- The mode clock is below the budget of the mode (R422). -/
  modeClock : s.gpu.modeClock < s.gpu.mode.budget
  /-- Lines 0 to 142 are scanned, the others are VBlank (R339, R422). -/
  lineMode : s.gpu.line ≤ 142 ↔ s.gpu.mode ≠ .vBlank
  /-- The scanline counter is at most 153 (R37). -/
  line : s.gpu.line ≤ 153
  /-- The frame has its shape (R37). -/
  frame : frameShape s.gpu.frameBuffer
  /-- The memories are in canonical form. -/
  mem : Memory.wf s.mem = true
  bios : Memory.wf s.bios = true

/-- A launch state (R401, R409, R412): reset, the images loaded, no fault raised. -/
def launched (bootstrap : List Byte) (rom : Option (List Byte)) (s : State) : Prop := launch bootstrap rom = .ok () s

/-- No step is missing at `s`: no fault is latched and the machine is not stuck (R18, R121). -/
def live (s : State) : Prop := s.fault = none ∧ s.halted = false

/-- A run of `n` steps from `s` that ends successfully at the address `stop` in the state `t` (R412): the first point
between steps at which PC is `stop`; no step before it faulted or was missing, and neither end is faulted or stuck,
for such a state is never the final one (R18, R121). DESIGN CHOICE (log entry 14): the launch state itself, before any step,
counts as such a point, so a run of no steps ends where PC is `stop` at the launch (`n = 0`), and no longer run does
(`m = 0`); R412 leaves open whether it counts. -/
def endsAt (s : State) (stop : Word) (n : Nat) (t : State) : Prop :=
  live s ∧ Host.Core.run core n s = .next t ∧ t.pc = stop ∧ live t ∧
    ∀ m < n, ∀ u, Host.Core.run core m s = .next u → u.pc ≠ stop

/-- A successful run of the two images, from the launch state to `stop` (R412). -/
def runEndsAt (bootstrap : List Byte) (rom : Option (List Byte)) (stop : Word) (n : Nat) (t : State) : Prop :=
  ∃ s, launched bootstrap rom s ∧ endsAt s stop n t

/-! ### Instruction bytes and rows of the opcode table -/

/-- The bytes that reads of rising addresses from `addr` on give (R77, R93). -/
def bytesAt (s : State) (addr : Word) (bytes : List Byte) (cfg : Settings := settings) : Prop :=
  match bytes with
  | [] => True
  | v :: rest => memRead s addr cfg = .ok v ∧ bytesAt s (addr + 1) rest cfg

/-- Some access of the operation at `addr` raised `MemoryAccess` and left `left` (R372, R379, R381). -/
def faultsAt (addr : Word) (left : State) (o : Step) : Prop :=
  o = .fault (.raised (.memoryAccess addr none) { left with fault := some (.memoryAccess addr none) })

/-- The fetch of each byte of an instruction raises where that byte's address answers no read (R122, R378): the bytes
before it are fetched, nothing else has changed. -/
def fetchFaults (bytes : List Byte) : Prop :=
  ∀ (s : State) (k : Nat), k < bytes.length → s.fault = none → s.halted = false → bytesAt s s.pc (bytes.take k) →
    readFaults (s.pc + BitVec.ofNat 16 k) = true →
    faultsAt (s.pc + BitVec.ofNat 16 k) { s with pc := s.pc + BitVec.ofNat 16 k } (step s)

/-- An instruction has the bytes and the costs of its row of the opcode table, and the fetch of its bytes raises only as
`fetchFaults` says. -/
def rowIs (i : Instr) (bytes : List Byte) (cycles : Nat) (notTaken : Option Nat) : Prop :=
  encode i = bytes ∧ (cost i).cycles = cycles ∧ (cost i).notTaken = notTaken ∧ fetchFaults bytes

/-- The code of a register (R94). -/
def regCode (r : Reg8) : Byte :=
  match r with
  | .b => 0
  | .c => 1
  | .d => 2
  | .e => 3
  | .h => 4
  | .l => 5
  | .a => 7

/-- The `rp` code (R95). -/
def pairCode (p : Pair) : Byte :=
  match p with
  | .bc => 0
  | .de => 1
  | .hl => 2
  | .sp => 3

/-- The `rp2` code (R95). -/
def stackCode (p : StackPair) : Byte :=
  match p with
  | .bc => 0
  | .de => 1
  | .hl => 2
  | .af => 3

/-- The `cc` code (R95, R277). -/
def condCode (cc : Cond) : Byte :=
  match cc with
  | .nz => 0
  | .z => 1
  | .nc => 2
  | .c => 3

/-- The `rot` code (R95). -/
def rotCode (k : RotKind) : Byte :=
  match k with
  | .rlc => 0
  | .rrc => 1
  | .rl => 2
  | .rr => 3
  | .sla => 4
  | .sra => 5
  | .swap => 6
  | .srl => 7

/-- The unassigned first bytes and their rows (R98, R103). -/
def unassignedRows : List (Byte × Instr) :=
  [(0xD3, .undefinedD3), (0xDB, .undefinedDB), (0xDD, .undefinedDD), (0xE3, .undefinedE3), (0xE4, .undefinedE4),
    (0xEB, .undefinedEB), (0xEC, .undefinedEC), (0xED, .undefinedED), (0xF4, .undefinedF4), (0xFC, .undefinedFC),
    (0xFD, .undefinedFD)]

/-- The first bytes of the instructions of three bytes (R90). -/
def threeByteOpcodes : List Byte :=
  [0x01, 0x11, 0x21, 0x31, 0x08, 0xC2, 0xC3, 0xC4, 0xCA, 0xCC, 0xCD, 0xD2, 0xD4, 0xDA, 0xDC, 0xEA, 0xFA]

/-- The first bytes of two-byte base instructions that R90 lists beside those with `z = 6` in `x = 0` or `x = 3`. -/
def twoByteOpcodes : List Byte := [0x10, 0x18, 0x20, 0x28, 0x30, 0x38, 0xE0, 0xE8, 0xF0, 0xF8]

/-- The length of an instruction by its first byte, as R90 lists it. -/
def lengthByFirstByte (op : Byte) : Nat :=
  if op = 0xCB then 2
  else if op ∈ threeByteOpcodes then 3
  else if op ∈ twoByteOpcodes ∨ (op.toNat % 8 = 6 ∧ (op.toNat / 64 = 0 ∨ op.toNat / 64 = 3)) then 2
  else 1

/-! ### Outcomes of an effect -/

/-- The four flags of `t` are the given ones, and its low nibble of F is that of `s` (R26, R150). -/
def flagsAre (z n h c : Bool) (s t : State) : Prop :=
  t.flagZ = z ∧ t.flagN = n ∧ t.flagH = h ∧ t.flagC = c ∧ t.f &&& 0x0F = s.f &&& 0x0F

/-- A next state in which the flags are the given ones and the rest is `u`. -/
def flagged (u : State) (z n h c : Bool) (o : Step) : Prop :=
  ∃ t, o = .next t ∧ t = { u with f := t.f } ∧ flagsAre z n h c u t

/-- An effect that loads the byte at `addr`: where the address answers reads it has `result` for the byte read, and where
it does not it raises and changes nothing. -/
def loadsAt (addr : Word) (s : State) (o : Step) (result : Byte → Step → Prop) : Prop :=
  (readFaults addr = false → ∃ v, memRead s addr = .ok v ∧ result v o) ∧ (readFaults addr = true → faultsAt addr s o)

/-- An effect that stores `v` at `addr`: where the address answers writes the next state is the state after the store, changed
by `finish`, and where it does not it raises and changes nothing. -/
def storesAt (addr : Word) (v : Byte) (s : State) (o : Step) (finish : State → State) : Prop :=
  (writeFaults addr = false → ∃ t, memWrite s addr v = .ok t ∧ o = .next (finish t)) ∧
    (writeFaults addr = true → faultsAt addr s o)

/-- An effect that pushes `w` and then changes the state by `finish` (R197): the high byte at SP - 1, then the low byte at
SP - 2; a store that raises leaves SP as far as it has come. -/
def pushes (w : Word) (s : State) (o : Step) (finish : State → State) : Prop :=
  (writeFaults (s.sp - 1) = false → writeFaults (s.sp - 2) = false →
    ∃ u t, memWrite { s with sp := s.sp - 1 } (s.sp - 1) (hi w) = .ok u ∧
      memWrite { u with sp := s.sp - 2 } (s.sp - 2) (lo w) = .ok t ∧ o = .next (finish t)) ∧
  (writeFaults (s.sp - 1) = true → faultsAt (s.sp - 1) { s with sp := s.sp - 1 } o) ∧
  (writeFaults (s.sp - 1) = false → writeFaults (s.sp - 2) = true →
    ∃ u, memWrite { s with sp := s.sp - 1 } (s.sp - 1) (hi w) = .ok u ∧ faultsAt (s.sp - 2) { u with sp := s.sp - 2 } o)

/-- An effect that pops a low and a high byte (R198): SP is 2 higher, changed further by `finish`; a load that raises leaves
SP as far as it has come. -/
def pops (s : State) (o : Step) (finish : Byte → Byte → State → State) : Prop :=
  (readFaults s.sp = false → readFaults (s.sp + 1) = false →
    ∃ low high, memRead s s.sp = .ok low ∧ memRead s (s.sp + 1) = .ok high ∧
      o = .next (finish high low { s with sp := s.sp + 2 })) ∧
  (readFaults s.sp = true → faultsAt s.sp s o) ∧
  (readFaults s.sp = false → readFaults (s.sp + 1) = true → faultsAt (s.sp + 1) { s with sp := s.sp + 1 } o)

/-- One of the eight accumulator operations in its three forms (R238): a register, an immediate, the byte at HL. -/
def aluForms (op : AluOp) (code : Byte) (result : State → Byte → Step → Prop) : Prop :=
  ∀ s : State,
    (∀ r, rowIs (.aluReg op r) [0x80 + 8 * code + regCode r] 4 none ∧ result s (s.reg r) (exec (.aluReg op r) s)) ∧
    (∀ n, rowIs (.aluImm op n) [0xC6 + 8 * code, n] 8 none ∧ result s n (exec (.aluImm op n) s)) ∧
    rowIs (.aluAtHl op) [0x86 + 8 * code] 8 none ∧ loadsAt s.hl s (exec (.aluAtHl op) s) (result s)

/-- `i` is a form of the accumulator operation `op`, and `x` is the second operand it reads in `s` (R238). -/
def aluReads (op : AluOp) (i : Instr) (s : State) (x : Byte) : Prop :=
  (∃ r, i = .aluReg op r ∧ x = s.reg r) ∨ i = .aluImm op x ∨ (i = .aluAtHl op ∧ memRead s s.hl = .ok x)

/-- `i` is INC or DEC of a register or of the byte at HL, whose forms are given, and `v` is the old value in `s` (R234
to R237). -/
def stepsByte (onReg : Reg8 → Instr) (atHl : Instr) (i : Instr) (s : State) (v : Byte) : Prop :=
  (∃ r, i = onReg r ∧ v = s.reg r) ∨ (i = atHl ∧ memRead s s.hl = .ok v)

/-- A read-modify-write of the byte at HL (R235, R312): the flags written first, then the store; where HL answers no read
the effect raises and changes nothing. An address that answers a read answers the write. -/
def modifiesAtHl (s : State) (o : Step) (res : Byte → Byte) (flags : Byte → State → State → Prop) : Prop :=
  (readFaults s.hl = false → ∃ v u t, memRead s s.hl = .ok v ∧ u = { s with f := u.f } ∧ flags v s u ∧
    memWrite u s.hl (res v) = .ok t ∧ o = .next t) ∧
  (readFaults s.hl = true → faultsAt s.hl s o)

/-- `Cond(cc)` as R277 lists it: bit 7 of F is Z, bit 4 is C (R26). -/
def condition (cc : Cond) (f : Byte) : Bool :=
  match cc with
  | .nz => f &&& 0x80 == 0
  | .z => f &&& 0x80 != 0
  | .nc => f &&& 0x10 == 0
  | .c => f &&& 0x10 != 0

/-- A conditional transfer (R277): `taken` is what it does where the condition holds; where it does not, the transient flag
is set and nothing else changes. -/
def conditional (cc : Cond) (s : State) (o : Step) (taken : Prop) : Prop :=
  (condition cc s.f = true → taken) ∧ (condition cc s.f = false → o = .next { s with notTaken := true })

/-- A PC moved by the signed displacement `b`, modulo 65536 (R93, R273). -/
def displaced (base : Word) (b : Byte) (target : Word) : Prop :=
  (target.toNat : Int) = ((base.toNat : Int) + b.toInt) % 65536

/-- `Rot` in numbers (R148): the result and the carry out of the value `v` and the carry in `c`. -/
def rotated (k : RotKind) (v c : Nat) : Nat × Nat :=
  match k with
  | .rlc => (2 * v % 256 + v / 128, v / 128)
  | .rrc => (v / 2 + 128 * (v % 2), v % 2)
  | .rl => (2 * v % 256 + c, v / 128)
  | .rr => (v / 2 + 128 * c, v % 2)
  | .sla => (2 * v % 256, v / 128)
  | .sra => (v / 2 + 128 * (v / 128), v % 2)
  | .swap => (v % 16 * 16 + v / 16, 0)
  | .srl => (v / 2, v % 2)

/-- The mask of bit index `n` (R147, R314): index 0 is the most significant bit. -/
def indexMask (n : BitVec 3) : Byte := BitVec.ofNat 8 (128 / 2 ^ n.toNat)

/-- An address where RAM answers: VRAM, ERAM, WRAM and its echo, OAM, ZRAM (R55). -/
def ramAddress (addr : Word) : Bool :=
  (decide (0x8000 ≤ addr.toNat) && decide (addr.toNat ≤ 0xFE9F)) || decide (0xFF80 ≤ addr.toNat)

/-! ### What an instruction writes -/

/-- The registers of a pair. -/
def pairRegs (p : BitVec 2) : List Reg8 := sel4 p [.b, .c] [.d, .e] [.h, .l] []

/-- The registers an instruction writes, F left aside, by the fields of its bytes (R96, R97). -/
def regsWritten (i : Instr) : List Reg8 :=
  match encode i with
  | [] => []
  | op :: rest =>
    let y := fieldY op
    let z := fieldZ op
    let p := fieldP y
    let q := fieldQ y
    if op = 0xCB then
      match rest with
      | [] => []
      | op2 :: _ => if fieldX op2 = 1 then [] else operand (fieldZ op2) (fun r => [r]) []
    else
      sel4 (fieldX op)
        (sel8 z [] (if q then [.h, .l] else pairRegs p)
          (if q then sel4 p [.a] [.a] [.a, .h, .l] [.a, .h, .l] else sel4 p [] [] [.h, .l] [.h, .l])
          (pairRegs p) (operand y (fun r => [r]) []) (operand y (fun r => [r]) []) (operand y (fun r => [r]) [])
          (if y = 6 ∨ y = 7 then [] else [.a]))
        (operand y (fun r => [r]) [])
        (if y = 7 then [] else [.a])
        (sel8 z (sel8 y [] [] [] [] [] [] [.a] [.h, .l])
          (if q then [] else sel4 p [.b, .c] [.d, .e] [.h, .l] [.a])
          (sel8 y [] [] [] [] [] [] [.a] [.a]) [] [] [] (if y = 7 then [] else [.a]) [])

/-- The bits of F an instruction writes, from the summary table (R150); POP AF writes all of F (R196). -/
def flagsWritten (i : Instr) : Byte :=
  match encode i with
  | [] => 0
  | op :: rest =>
    let y := fieldY op
    let z := fieldZ op
    if op = 0xCB then
      match rest with
      | [] => 0
      | op2 :: _ => sel4 (fieldX op2) 0xF0 0xE0 0x00 0x00
    else
      sel4 (fieldX op)
        (sel8 z 0x00 (if fieldQ y then 0x70 else 0x00) 0x00 0x00 0xE0 0xE0 0x00
          (sel8 y 0xF0 0xF0 0xF0 0xF0 0xB0 0x60 0x70 0x70))
        0x00 0xF0
        (sel8 z (sel8 y 0x00 0x00 0x00 0x00 0x00 0xF0 0x00 0xF0) (if op = 0xF1 then 0xFF else 0x00) 0x00 0x00 0x00 0x00
          0xF0 0x00)

/-- The first bytes of the instructions that write SP (R25): LD SP,nn, INC SP, DEC SP, ADD SP,e, LD SP,HL, POP, PUSH, the
returns, the calls and RST. -/
def spWriters : List Byte :=
  [0x31, 0x33, 0x3B, 0xE8, 0xF9, 0xC1, 0xD1, 0xE1, 0xF1, 0xC5, 0xD5, 0xE5, 0xF5, 0xC9, 0xD9, 0xC0, 0xC8, 0xD0, 0xD8,
    0xCD, 0xC4, 0xCC, 0xD4, 0xDC, 0xC7, 0xCF, 0xD7, 0xDF, 0xE7, 0xEF, 0xF7, 0xFF]

/-- The first bytes of the instructions that write PC beyond the fetch (R270 to R281). -/
def pcWriters : List Byte :=
  [0x18, 0x20, 0x28, 0x30, 0x38, 0xC3, 0xC2, 0xCA, 0xD2, 0xDA, 0xE9, 0xCD, 0xC4, 0xCC, 0xD4, 0xDC, 0xC9, 0xD9, 0xC0,
    0xC8, 0xD0, 0xD8, 0xC7, 0xCF, 0xD7, 0xDF, 0xE7, 0xEF, 0xF7, 0xFF]

/-- The first byte of an instruction. -/
def firstByte (i : Instr) : Byte := (encode i).headD 0

/-- The two addresses a push stores to (R197). -/
def pushAddrs (s : State) : List Word := [s.sp - 1, s.sp - 2]

/-- The addresses an instruction stores to in a state, each as its rule computes it; an instruction not named stores
nothing. -/
def storeAddrs (i : Instr) (s : State) : List Word :=
  match i with
  | .ldAtBcA => [s.bc]
  | .ldAtDeA => [s.de]
  | .ldAtImm16A nn => [nn]
  | .ldhAtImmA n => [ioAddr n]
  | .ldAtCA => [ioAddr s.c]
  | .ldAtImm16Sp nn => [nn, nn + 1]
  | .ldAtHlB | .ldAtHlC | .ldAtHlD | .ldAtHlE | .ldAtHlH | .ldAtHlL | .ldAtHlA | .ldAtHlImm _ | .ldAtHlIncA
  | .ldAtHlDecA | .incAtHl | .decAtHl => [s.hl]
  | .rlcAtHl | .rrcAtHl | .rlAtHl | .rrAtHl | .slaAtHl | .sraAtHl | .swapAtHl | .srlAtHl => [s.hl]
  | .res0AtHl | .res1AtHl | .res2AtHl | .res3AtHl | .res4AtHl | .res5AtHl | .res6AtHl | .res7AtHl => [s.hl]
  | .set0AtHl | .set1AtHl | .set2AtHl | .set3AtHl | .set4AtHl | .set5AtHl | .set6AtHl | .set7AtHl => [s.hl]
  | .pushBc | .pushDe | .pushHl | .pushAf => pushAddrs s
  | .callImm16 _ | .rst00 | .rst08 | .rst10 | .rst18 | .rst20 | .rst28 | .rst30 | .rst38 => pushAddrs s
  | .callNzImm16 _ => if condition .nz s.f then pushAddrs s else []
  | .callZImm16 _ => if condition .z s.f then pushAddrs s else []
  | .callNcImm16 _ => if condition .nc s.f then pushAddrs s else []
  | .callCImm16 _ => if condition .c s.f then pushAddrs s else []
  | _ => []

/-! ### The GPU over a number of units -/

/-- `n` steps of one unit each, as the GPU sees them (R339 (b)). -/
def gpuUnits (mem : Memory) (n : Nat) (g : Gpu) : Gpu :=
  match n with
  | 0 => g
  | k + 1 => gpuUnits mem k ((g.advance 1).check mem)

/-- `FrameBuffer[y][x]` after a render, as R346 to R349 compute it from VRAM, LCDC and the scroll offsets. -/
def renderedPixel (mem : Memory) (g : Gpu) (y x : Nat) : Nat :=
  let row := (g.scrollY.toNat + y) % 256
  let column := (g.scrollX.toNat + x) % 256
  let mapBase := if g.lcdControl.getLsbD 3 then 0x9C00 else 0x9800
  let idx := Memory.read mem (mapBase + 32 * (row / 8) + column / 8)
  let tile := if g.lcdControl.getLsbD 4 then 0x8000 + 16 * idx.toNat else ((0x9000 : Int) + 16 * idx.toInt).toNat
  let lowB := Memory.read mem (tile + 2 * (row % 8))
  let highB := Memory.read mem (tile + 2 * (row % 8) + 1)
  2 * (highB.toNat / 2 ^ (7 - column % 8) % 2) + lowB.toNat / 2 ^ (7 - column % 8) % 2

end Sys2Proof.Safety
end

