-- ==== Sys2Proof/Certificates/Slice0/Obligations.lean ====
section
/-! DEFINITION. The statements for the provers, each from a numbered rule of the spec or derived from some; the vocabulary they
share stands in Sys2Proof/Safety.lean. -/

open Sys2Proof Sys2Proof.Machine Sys2Proof.Safety

/-! ### Reset, launch, encoding -/

/-- R403: the reset value of every piece of state. The images come after reset (R401), see `LaunchLoadsImages`. The spec
marks the values that TSD does not give as its own decisions (D18, D20, D21, D22, D24). -/
def Obligations.ResetValues : Prop :=
  let s := State.reset
  ((∀ r, s.reg r = 0) ∧ s.f = 0 ∧ s.pc = 0 ∧ s.sp = 0 ∧ s.mClock = 0 ∧ s.tClock = 0) ∧
  (s.notTaken = false ∧ s.ime = false ∧ s.halted = false ∧ s.fault = none ∧ s.biosMapped = true) ∧
  ((∀ a, Memory.read s.bios a = 0) ∧ (∀ a, Memory.read s.mem a = 0) ∧ s.serialOut = []) ∧
  (s.gpu.mode = .oamScan ∧ s.gpu.mode.number = 2 ∧ s.gpu.line = 0 ∧ s.gpu.modeClock = 0 ∧ s.gpu.scrollX = 0 ∧
    s.gpu.scrollY = 0 ∧ s.gpu.backgroundPalette = 0 ∧ s.gpu.lcdControl = 0 ∧ s.gpu.frameCount = 0) ∧
  frameShape s.gpu.frameBuffer ∧ ∀ row ∈ s.gpu.frameBuffer, ∀ cell ∈ row, cell = 0

/-- R407, R408: what the two loads do, and when each raises; the fault of `loadRom` comes after ROM0 is filled. How short and
long images are taken is the spec's own decision (D37). -/
def Obligations.LaunchLoadsImages : Prop :=
  (∀ bytes s, bytes.length ≤ 256 →
    ∃ t : State, loadBootstrap bytes s = .ok () t ∧ t = { s with bios := t.bios } ∧
      ∀ a, Memory.read t.bios a = if a < bytes.length then bytes.getD a 0 else Memory.read s.bios a) ∧
  (∀ bytes s, bytes.length > 256 →
    loadBootstrap bytes s = .raised (.romFileSize 256 bytes.length) { s with fault := some (.romFileSize 256 bytes.length) }) ∧
  (∀ bytes s, bytes.getD 0x147 0 = 0 →
    ∃ t : State, loadRom bytes s = .ok () t ∧ t = { s with mem := t.mem } ∧
      ∀ a, Memory.read t.mem a = if a < bytes.length ∧ a < 0x8000 then bytes.getD a 0 else Memory.read s.mem a) ∧
  (∀ bytes s, bytes.getD 0x147 0 ≠ 0 →
    ∃ t : State, loadRom bytes s = .raised .mapperNotImplemented { t with fault := some .mapperNotImplemented } ∧
      t = { s with mem := t.mem } ∧
      ∀ a, Memory.read t.mem a = if a < bytes.length ∧ a < 0x4000 then bytes.getD a 0 else Memory.read s.mem a)

/-- Decoding the bytes of an instruction gives it back, whatever follows, with every operand value (R93 to R97, R123). -/
def Obligations.DecodeOfEncode : Prop :=
  ∀ (i : Instr) (rest : List Byte), i.wellFormed = true → decode (encode i ++ rest) = .ok (i, rest)

/-- Only the bytes of an instruction decode to it: no byte of an encoding is ignored, and no other bytes mean the same
(R91 to R98). -/
def Obligations.EncodeOfDecode : Prop :=
  ∀ (bytes rest : List Byte) (i : Instr), decode bytes = .ok (i, rest) → bytes = encode i ++ rest

/-- Words written out from the encodings of the spec (R162, R163, R191, R211, R250, R274, R281, R290, R306) decode to what they
stand for. -/
def Obligations.SampleWordsDecode : Prop :=
  decode [0b00000000] = .ok (.nop, []) ∧
  decode [0b01000111] = .ok (.ldBA, []) ∧
  decode [0b00000110, 0x42] = .ok (.ldBImm 0x42, []) ∧
  decode [0b00001000, 0x00, 0xC1] = .ok (.ldAtImm16Sp 0xC100, []) ∧
  decode [0b10000110] = .ok (.addAAtHl, []) ∧
  decode [0b00101001] = .ok (.addHlHl, []) ∧
  decode [0b00100000, 0xFD] = .ok (.jrNzRel 0xFD, []) ∧
  decode [0b11101111] = .ok (.rst28, []) ∧
  decode [0b11001011, 0b00010010] = .ok (.rlD, []) ∧
  decode [0b11001011, 0b01111100] = .ok (.bit7H, []) ∧
  decode [0b01110110] = .ok (.halt, [])

/-- R90: the first byte alone fixes the length, by the list of the rule; after the escape byte 0xCB it is 2. -/
def Obligations.FirstByteFixesLength : Prop :=
  ∀ (op : Byte) (tail rest : List Byte) (i : Instr), decode (op :: tail) = .ok (i, rest) →
    tail.length + 1 = lengthByFirstByte op + rest.length ∧ (encode i).length = lengthByFirstByte op

/-- R325, R98: the eleven unassigned bytes, and no others, have no instruction; the effect of their rows is the fault, and a
step that fetches one raises it with PC one past the byte, no operand byte read, nothing charged and nothing else changed.
That these eleven rows alone are ill-formed rests on the default sets of R6, the spec's own decision (D1), which the model
fixes (log entry 4). -/
def Obligations.UnassignedBytesStop : Prop :=
  (∀ i : Instr, i.wellFormed = false ↔ ∃ op, (op, i) ∈ unassignedRows) ∧
  (∀ op i, (op, i) ∈ unassignedRows → encode i = [op] ∧ ∀ s : State, exec i s =
    .fault (.raised (.instructionNotImplemented op (s.pc - 1))
      { s with fault := some (.instructionNotImplemented op (s.pc - 1)) })) ∧
  ∀ op i (s : State), (op, i) ∈ unassignedRows → s.fault = none → s.halted = false → memRead s s.pc = .ok op →
    step s = .fault (.raised (.instructionNotImplemented op s.pc)
      { s with pc := s.pc + 1, fault := some (.instructionNotImplemented op s.pc) })

/-! ### The step -/

/-- A step runs the instruction its bytes decode to (R120 to R129): PC moved past the bytes, the effect, then the cycles of
the row charged to the clocks, the transient flag cleared and the GPU advanced and checked. That a raise charges nothing is
the spec's own decision (D20); that a row with no not-taken cost is charged its base cost where notTaken is set, which no run
reaches, is the model's choice (log entry 13). -/
def Obligations.StepRunsDecodedInstruction : Prop :=
  ∀ (s : State) (i : Instr) (bytes : List Byte), s.fault = none → s.halted = false → bytesAt s s.pc bytes →
    decode bytes = .ok (i, []) →
    step s =
      match exec i { s with pc := s.pc + BitVec.ofNat 16 bytes.length } with
      | .next t =>
        let cycles := if t.notTaken then (cost i).notTaken.getD (cost i).cycles else (cost i).cycles
        .next { t with
          notTaken := false
          mClock := t.mClock + cycles
          tClock := t.tClock + cycles / 4
          gpu := (t.gpu.advance (cycles / 4)).check t.mem }
      | .fault r => .fault r
      | .refused r => .refused r

/-- R121: a step exists exactly where no fault is latched and the machine is not halted. That a latched fault or `halted`
leaves no step is the spec's own decision (D20). -/
def Obligations.StepExistsIff : Prop :=
  ∀ s : State, ((∃ r, step s = .fault (.noStepFaulted r)) ∨ step s = .fault .noStepHalted) ↔
    ¬ (s.fault = none ∧ s.halted = false)

/-- The fetch of each byte of each instruction raises where its address answers no read, first byte first, before anything
else of the step (R122, R378 (1), (2) and (4)). The order of faults is the spec's inference from R129 (R378). -/
def Obligations.InstructionFetchFaults : Prop := ∀ i : Instr, fetchFaults (encode i)

/-- The invariants of R26, R33, R37 and R422 and the canonical form of the memories hold after reset. The spec marks R422 as
derived from R129 and R337. -/
def Obligations.InvAtReset : Prop := Inv State.reset

/-- Every step keeps the invariants of R26, R33, R37 and R422 and the canonical form of the memories. The spec marks R422 as
derived from R129 and R337. -/
def Obligations.InvKeptByStep : Prop := ∀ s t : State, Inv s → step s = .next t → Inv t

/-- No step changes a byte of ROM or of the BIOS, and no step brings the overlay back (R34, R60, R69). Dropping a write to
ROM is the spec's default of ROM_WRITE (D13), which the model fixes (log entry 4). -/
def Obligations.RomFixedAndOverlayStaysOff : Prop :=
  ∀ s t : State, step s = .next t →
    (∀ a < 0x8000, Memory.read t.mem a = Memory.read s.mem a) ∧ t.bios = s.bios ∧
    (s.biosMapped = false → t.biosMapped = false)

/-- Every step moves the T-clock by 1 to 6 units and the M-clock by four times as much; the serial output only grows, and at
most one frame is rendered (R32, R36, R127, R352, R353). The bound of 6 units is the spec's inference from the `cycles`
column (R353). -/
def Obligations.StepAdvancesClocks : Prop :=
  ∀ s t : State, step s = .next t →
    (∃ n, 1 ≤ n ∧ n ≤ 6 ∧ t.tClock = s.tClock + n ∧ t.mClock = s.mClock + 4 * n) ∧ s.serialOut <+: t.serialOut ∧
    (t.gpu.frameCount = s.gpu.frameCount ∨ t.gpu.frameCount = s.gpu.frameCount + 1)

/-! ### The bus -/

/-- R52: every row of the read decode; a read changes no state. -/
def Obligations.BusReadByRange : Prop :=
  ∀ (s : State) (addr : Word),
    let a := addr.toNat
    (a ≤ 0x00FF → s.biosMapped = true → memRead s addr = .ok (Memory.read s.bios a)) ∧
    (a ≤ 0x00FF → s.biosMapped = false → memRead s addr = .ok (Memory.read s.mem a)) ∧
    (0x0100 ≤ a → a ≤ 0xDFFF → memRead s addr = .ok (Memory.read s.mem a)) ∧
    (0xE000 ≤ a → a ≤ 0xFDFF → memRead s addr = .ok (Memory.read s.mem (a - 0x2000))) ∧
    (0xFE00 ≤ a → a ≤ 0xFE9F → memRead s addr = .ok (Memory.read s.mem a)) ∧
    (0xFEA0 ≤ a → a ≤ 0xFF00 → memRead s addr = .ok 0) ∧
    (a = 0xFF02 → memRead s addr = .ok Config.serialCtrlRead) ∧
    (0xFF80 ≤ a → memRead s addr = .ok (Memory.read s.mem a)) ∧
    (∀ r, gpuRegs a = some r → memRead s addr = .ok (s.gpu.readReg r)) ∧
    (a = 0xFF01 ∨ (0xFF03 ≤ a ∧ a ≤ 0xFF3F) ∨ (0xFF40 ≤ a ∧ a ≤ 0xFF7F ∧ gpuRegs a = none) →
      memRead s addr = .error (.memoryAccess addr none))

/-- R53: every row of the write decode, with ROM_WRITE = drop. Dropping a write to ROM is the spec's default of ROM_WRITE
(D13), which the model fixes (log entry 4). -/
def Obligations.BusWriteByRange : Prop :=
  ∀ (s : State) (addr : Word) (v : Byte),
    let a := addr.toNat
    (a ≤ 0x7FFF → memWrite s addr v = .ok s) ∧
    (0x8000 ≤ a → a ≤ 0xDFFF → memWrite s addr v = .ok { s with mem := Memory.write s.mem a v }) ∧
    (0xE000 ≤ a → a ≤ 0xFDFF → memWrite s addr v = .ok { s with mem := Memory.write s.mem (a - 0x2000) v }) ∧
    (0xFE00 ≤ a → a ≤ 0xFE9F → memWrite s addr v = .ok { s with mem := Memory.write s.mem a v }) ∧
    (0xFEA0 ≤ a → a ≤ 0xFF00 → memWrite s addr v = .ok s) ∧
    (a = 0xFF01 → memWrite s addr v = .ok { s with serialOut := s.serialOut ++ [v] }) ∧
    (a = 0xFF02 → memWrite s addr v = .ok s) ∧
    (a = 0xFF50 → memWrite s addr v = .ok (if v = 0x01 then { s with biosMapped := false } else s)) ∧
    (0xFF80 ≤ a → memWrite s addr v = .ok { s with mem := Memory.write s.mem a v }) ∧
    (∀ r, gpuRegs a = some r → memWrite s addr v = .ok { s with gpu := s.gpu.writeReg r v }) ∧
    ((0xFF03 ≤ a ∧ a ≤ 0xFF3F) ∨ (0xFF40 ≤ a ∧ a ≤ 0xFF7F ∧ a ≠ 0xFF50 ∧ gpuRegs a = none) →
      memWrite s addr v = .error (.memoryAccess addr none))

/-- A load after a store to RAM gives the byte stored; a load from any address the store does not reach gives what it gave
before (R52, R53, R76, R78). -/
def Obligations.LoadAfterStore : Prop :=
  ∀ (s t : State) (addr : Word) (v : Byte), memWrite s addr v = .ok t →
    (ramAddress addr = true → memRead t addr = .ok v) ∧
    ∀ b, ¬ storeReaches addr b → memRead t b = memRead s b

/-- R62: an access to the echo is the access 0x2000 below; each side sees what was stored through the other; the last 512 bytes
of WRAM have no echo. -/
def Obligations.EchoMirrorsWram : Prop :=
  ∀ (s : State) (addr : Word) (v : Byte),
    (0xE000 ≤ addr.toNat → addr.toNat ≤ 0xFDFF →
      memRead s addr = memRead s (addr - 0x2000) ∧ memWrite s addr v = memWrite s (addr - 0x2000) v ∧
      (∃ t, memWrite s addr v = .ok t ∧ memRead t (addr - 0x2000) = .ok v) ∧
      (∃ t, memWrite s (addr - 0x2000) v = .ok t ∧ memRead t addr = .ok v)) ∧
    (0xDE00 ≤ addr.toNat → addr.toNat ≤ 0xDFFF →
      ∃ t, memWrite s addr v = .ok t ∧ ∀ b, b ≠ addr → memRead t b = memRead s b)

/-- R69, R56: the BIOS latch, and what it hides. Dropping other values and raising on a read are the spec's own decision
(D14). -/
def Obligations.BiosLatch : Prop :=
  ∀ (s : State) (v : Byte),
    memWrite s 0xFF50 v = .ok (if v = 0x01 then { s with biosMapped := false } else s) ∧
    memRead s 0xFF50 = .error (.memoryAccess 0xFF50 none) ∧
    (∀ addr w t, memWrite s addr w = .ok t → t.biosMapped = true → s.biosMapped = true) ∧
    (∀ addr : Word, addr.toNat ≤ 0x00FF →
      memRead s addr = .ok (if s.biosMapped then Memory.read s.bios addr.toNat else Memory.read s.mem addr.toNat)) ∧
    ∀ addr : Word, 0x0100 ≤ addr.toNat → addr.toNat ≤ 0x3FFF → memRead s addr = .ok (Memory.read s.mem addr.toNat)

/-- R340: the GPU register window: what a read of each listed address returns, what a write does, the reset values, and the
faults of the unlisted addresses. The addresses are the spec's default of GPU_REGS (D16), which the model takes (log entry 4).
Another GPU_REGS changes only which addresses of the window reach which of the six registers. -/
def Obligations.GpuRegisterWindow : Prop :=
  (∀ s : State,
    memRead s 0xFF40 = .ok s.gpu.lcdControl ∧ memRead s 0xFF41 = .ok (BitVec.ofNat 8 s.gpu.mode.number) ∧
    memRead s 0xFF42 = .ok s.gpu.scrollY ∧ memRead s 0xFF43 = .ok s.gpu.scrollX ∧
    memRead s 0xFF44 = .ok (BitVec.ofNat 8 s.gpu.line) ∧ memRead s 0xFF47 = .ok s.gpu.backgroundPalette) ∧
  (∀ (s : State) (v : Byte),
    memWrite s 0xFF40 v = .ok { s with gpu := { s.gpu with lcdControl := v } } ∧ memWrite s 0xFF41 v = .ok s ∧
    memWrite s 0xFF42 v = .ok { s with gpu := { s.gpu with scrollY := v } } ∧
    memWrite s 0xFF43 v = .ok { s with gpu := { s.gpu with scrollX := v } } ∧ memWrite s 0xFF44 v = .ok s ∧
    memWrite s 0xFF47 v = .ok { s with gpu := { s.gpu with backgroundPalette := v } }) ∧
  (memRead State.reset 0xFF40 = .ok 0x00 ∧ memRead State.reset 0xFF41 = .ok 0x02 ∧ memRead State.reset 0xFF42 = .ok 0x00 ∧
    memRead State.reset 0xFF43 = .ok 0x00 ∧ memRead State.reset 0xFF44 = .ok 0x00 ∧ memRead State.reset 0xFF47 = .ok 0x00) ∧
  (∀ (s : State) (v : Byte) (addr : Word),
    addr = 0xFF45 ∨ addr = 0xFF46 ∨ (0xFF48 ≤ addr.toNat ∧ addr.toNat ≤ 0xFF4F) ∨
      (0xFF51 ≤ addr.toNat ∧ addr.toNat ≤ 0xFF7F) →
    memRead s addr = .error (.memoryAccess addr none) ∧ memWrite s addr v = .error (.memoryAccess addr none)) ∧
  ∀ (regs : GpuRegs) (s : State) (v : Byte) (addr : Word),
    (∀ r, inGpuWindow addr → regs addr.toNat = some r →
      memRead s addr (withGpuRegs regs) = .ok (s.gpu.readReg r) ∧
      memWrite s addr v (withGpuRegs regs) = .ok { s with gpu := s.gpu.writeReg r v } ∧
      execIn (withGpuRegs regs) (.ldAAtImm16 addr) s = .next { s with a := s.gpu.readReg r } ∧
      execIn (withGpuRegs regs) (.ldAtImm16A addr) s = .next { s with gpu := s.gpu.writeReg r s.a }) ∧
    (inGpuWindow addr → regs addr.toNat = none →
      memRead s addr (withGpuRegs regs) = .error (.memoryAccess addr none) ∧
      memWrite s addr v (withGpuRegs regs) = .error (.memoryAccess addr none)) ∧
    (¬ inGpuWindow addr →
      memRead s addr (withGpuRegs regs) = memRead s addr ∧ memWrite s addr v (withGpuRegs regs) = memWrite s addr v)

/-! ### 8-bit arithmetic and logic -/

/-- R210, R211, R212. -/
def Obligations.AddToAccumulator : Prop :=
  aluForms .add 0 fun s x o =>
    flagged { s with a := s.a + x } (s.a + x == 0) false (decide (s.a.toNat % 8 + x.toNat % 8 > 7))
      (decide (s.a.toNat + x.toNat > 255)) o

/-- R213, R214, R215. The place of the carry inside both predicates is the spec's own decision (D6). -/
def Obligations.AddWithCarry : Prop :=
  aluForms .adc 1 fun s x o =>
    let c : Byte := if s.flagC then 1 else 0
    flagged { s with a := s.a + x + c } (s.a + x + c == 0) false
      (decide (s.a.toNat % 8 + x.toNat % 8 + c.toNat > 7)) (decide (s.a.toNat + x.toNat + c.toNat > 255)) o

/-- R216, R217, R218: the borrow test of R143, with the whole subtrahend. The reading of TSD's borrow sentence is the spec's
own decision (D7). -/
def Obligations.SubtractFromAccumulator : Prop :=
  aluForms .sub 2 fun s x o =>
    flagged { s with a := s.a - x } (s.a - x == 0) true (s.a.getLsbD 3 && decide (x.toNat > s.a.toNat % 16))
      (s.a.getLsbD 7 && decide (x.toNat > s.a.toNat)) o

/-- R219, R220, R221: the subtrahend `x + F.C` is not reduced. The subtrahend with the borrow is the spec's own decision
(D8), the reading of the borrow sentence too (D7). -/
def Obligations.SubtractWithBorrow : Prop :=
  aluForms .sbc 3 fun s x o =>
    let c : Byte := if s.flagC then 1 else 0
    flagged { s with a := s.a - x - c } (s.a - x - c == 0) true
      (s.a.getLsbD 3 && decide (x.toNat + c.toNat > s.a.toNat % 16))
      (s.a.getLsbD 7 && decide (x.toNat + c.toNat > s.a.toNat)) o

/-- R222 to R230. H and C are the spec's own decision (D40). -/
def Obligations.LogicOnAccumulator : Prop :=
  (aluForms .and 4 fun s x o => flagged { s with a := s.a &&& x } (s.a &&& x == 0) false true false o) ∧
  (aluForms .xor 5 fun s x o => flagged { s with a := s.a ^^^ x } (s.a ^^^ x == 0) false false false o) ∧
  (aluForms .or 6 fun s x o => flagged { s with a := s.a ||| x } (s.a ||| x == 0) false false false o)

/-- R231, R232, R233: the flags of SUB, A unchanged; Z says A = x. The reading of TSD's borrow sentence is the spec's own
decision (D7). -/
def Obligations.CompareWithAccumulator : Prop :=
  aluForms .cp 7 fun s x o =>
    flagged s (decide (s.a = x)) true (s.a.getLsbD 3 && decide (x.toNat > s.a.toNat % 16))
      (s.a.getLsbD 7 && decide (x.toNat > s.a.toNat)) o

/-- R234, R235: H is set iff the low three bits were ones; C is kept; the flags are written before the store. Which predicate
H takes and that C is kept are the spec's own decision (D9). -/
def Obligations.IncrementByte : Prop :=
  ∀ s : State,
    (∀ r, rowIs (.incReg r) [0x04 + 8 * regCode r] 4 none ∧
      flagged (s.setReg r (s.reg r + 1)) (s.reg r + 1 == 0) false (decide ((s.reg r).toNat % 8 = 7)) s.flagC
        (exec (.incReg r) s)) ∧
    rowIs .incAtHl [0x34] 12 none ∧
    modifiesAtHl s (exec .incAtHl s) (· + 1) fun v s u =>
      flagsAre (v + 1 == 0) false (decide (v.toNat % 8 = 7)) s.flagC s u

/-- R236, R237: H is always cleared; C is kept; the flags are written before the store. Which predicate H takes and that C is
kept are the spec's own decision (D9). -/
def Obligations.DecrementByte : Prop :=
  ∀ s : State,
    (∀ r, rowIs (.decReg r) [0x05 + 8 * regCode r] 4 none ∧
      flagged (s.setReg r (s.reg r - 1)) (s.reg r - 1 == 0) true false s.flagC (exec (.decReg r) s)) ∧
    rowIs .decAtHl [0x35] 12 none ∧
    modifiesAtHl s (exec .decAtHl s) (· - 1) fun v s u => flagsAre (v - 1 == 0) true false s.flagC s u

/-- R151: the consequences of the 3-bit half-carry and of the borrow test that the spec calls worth testing, (a) to (e), in
every operand form. The spec marks the rule as derived from R141 and R143. -/
def Obligations.FlagPredicateConsequences : Prop :=
  (∀ (s t : State) (i : Instr) (v : Byte), stepsByte .incReg .incAtHl i s v → exec i s = .next t →
    (t.flagH = true ↔ v &&& 7 = 7)) ∧
  (∀ (s t : State) (i : Instr) (v : Byte), stepsByte .decReg .decAtHl i s v → exec i s = .next t → t.flagH = false) ∧
  (∀ (s t : State) (i : Instr) (x : Byte), aluReads .sub i s x ∨ aluReads .cp i s x → exec i s = .next t →
    (t.flagC = true ↔ s.a.toNat ≥ 0x80 ∧ x.toNat > s.a.toNat)) ∧
  (∀ (s t : State) (i : Instr) (x : Byte), aluReads .sbc i s x → exec i s = .next t →
    (t.flagC = true ↔ s.a.toNat ≥ 0x80 ∧ x.toNat + s.flagC.toNat > s.a.toNat)) ∧
  (∀ s t : State, (exec (.aluReg .sub .a) s = .next t ∨ exec (.aluReg .cp .a) s = .next t) →
    t.flagZ = true ∧ t.flagN = true ∧ t.flagC = false ∧ (t.flagH = true ↔ s.a.getLsbD 3 = true ∧ s.a.toNat ≥ 0x10)) ∧
  ∀ s t : State, s.flagC = true → exec (.aluReg .sbc .a) s = .next t →
    t.a = 0xFF ∧ t.flagZ = false ∧ t.flagN = true ∧ t.flagC = s.a.getLsbD 7 ∧ t.flagH = s.a.getLsbD 3

/-! ### Loads and stores -/

/-- R162, R163. -/
def Obligations.LoadRegister : Prop :=
  ∀ (s : State) (r : Reg8),
    (∀ q, rowIs (.ldRegReg r q) [0x40 + 8 * regCode r + regCode q] 4 none ∧
      exec (.ldRegReg r q) s = .next (s.setReg r (s.reg q)) ∧ ∀ q', (s.setReg r (s.reg q)).reg q' =
        if q' = r then s.reg q else s.reg q') ∧
    ∀ n, rowIs (.ldRegImm r n) [0x06 + 8 * regCode r, n] 8 none ∧ exec (.ldRegImm r n) s = .next (s.setReg r n)

/-- R164, R168, R169, R172, R174, R176: the loads from memory; the address is computed from the old registers. The base of
LDH and LD A,(C) is the spec's own decision (D34). -/
def Obligations.LoadFromMemory : Prop :=
  ∀ s : State,
    (∀ r, rowIs (.ldRegAtHl r) [0x46 + 8 * regCode r] 8 none ∧
      loadsAt s.hl s (exec (.ldRegAtHl r) s) fun v o => o = .next (s.setReg r v)) ∧
    (rowIs .ldAAtBc [0x0A] 8 none ∧ loadsAt s.bc s (exec .ldAAtBc s) fun v o => o = .next { s with a := v }) ∧
    (rowIs .ldAAtDe [0x1A] 8 none ∧ loadsAt s.de s (exec .ldAAtDe s) fun v o => o = .next { s with a := v }) ∧
    (∀ nn, rowIs (.ldAAtImm16 nn) [0xFA, lo nn, hi nn] 16 none ∧
      loadsAt nn s (exec (.ldAAtImm16 nn) s) fun v o => o = .next { s with a := v }) ∧
    (∀ n, rowIs (.ldhAAtImm n) [0xF0, n] 12 none ∧
      loadsAt (0xFF00 + n.zeroExtend 16) s (exec (.ldhAAtImm n) s) fun v o => o = .next { s with a := v }) ∧
    (rowIs .ldAAtC [0xF2] 8 none ∧
      loadsAt (0xFF00 + s.c.zeroExtend 16) s (exec .ldAAtC s) fun v o => o = .next { s with a := v })

/-- R165, R167, R170, R171, R173, R175, R177: the stores of one byte. The base of LDH and LD (C),A is the spec's own decision
(D34). -/
def Obligations.StoreToMemory : Prop :=
  ∀ s : State,
    (∀ r, rowIs (.ldAtHlReg r) [0x70 + regCode r] 8 none ∧ storesAt s.hl (s.reg r) s (exec (.ldAtHlReg r) s) id) ∧
    (∀ n, rowIs (.ldAtHlImm n) [0x36, n] 12 none ∧ storesAt s.hl n s (exec (.ldAtHlImm n) s) id) ∧
    (rowIs .ldAtBcA [0x02] 8 none ∧ storesAt s.bc s.a s (exec .ldAtBcA s) id) ∧
    (rowIs .ldAtDeA [0x12] 8 none ∧ storesAt s.de s.a s (exec .ldAtDeA s) id) ∧
    (∀ nn, rowIs (.ldAtImm16A nn) [0xEA, lo nn, hi nn] 16 none ∧ storesAt nn s.a s (exec (.ldAtImm16A nn) s) id) ∧
    (∀ n, rowIs (.ldhAtImmA n) [0xE0, n] 12 none ∧
      storesAt (0xFF00 + n.zeroExtend 16) s.a s (exec (.ldhAtImmA n) s) id) ∧
    (rowIs .ldAtCA [0xE2] 8 none ∧ storesAt (0xFF00 + s.c.zeroExtend 16) s.a s (exec .ldAtCA s) id)

/-- R178, R179, R180, R181: the forms that move HL; where the access raises HL is not moved. -/
def Obligations.LoadStoreMovingHl : Prop :=
  ∀ s : State,
    (rowIs .ldAtHlIncA [0x22] 8 none ∧ storesAt s.hl s.a s (exec .ldAtHlIncA s)
      fun t => { t with h := hi (s.hl + 1), l := lo (s.hl + 1) }) ∧
    (rowIs .ldAtHlDecA [0x32] 8 none ∧ storesAt s.hl s.a s (exec .ldAtHlDecA s)
      fun t => { t with h := hi (s.hl - 1), l := lo (s.hl - 1) }) ∧
    (rowIs .ldAAtHlInc [0x2A] 8 none ∧ loadsAt s.hl s (exec .ldAAtHlInc s)
      fun v o => o = .next { s with a := v, h := hi (s.hl + 1), l := lo (s.hl + 1) }) ∧
    (rowIs .ldAAtHlDec [0x3A] 8 none ∧ loadsAt s.hl s (exec .ldAAtHlDec s)
      fun v o => o = .next { s with a := v, h := hi (s.hl - 1), l := lo (s.hl - 1) })

/-- R190, R192. The byte order of the immediate is the spec's own decision (D3). -/
def Obligations.LoadPair : Prop :=
  ∀ s : State,
    (∀ p nn, rowIs (.ldPairImm16 p nn) [0x01 + 16 * pairCode p, lo nn, hi nn] 12 none ∧
      exec (.ldPairImm16 p nn) s = .next (s.setPair p nn) ∧ (s.setPair p nn).pair p = nn) ∧
    rowIs .ldSpHl [0xF9] 8 none ∧ exec .ldSpHl s = .next { s with sp := word s.h s.l }

/-- R191: the low byte at `nn`, then the high byte at `nn + 1`, each decoded on its own. The byte order is the spec's own
decision (D3). -/
def Obligations.StoreStackPointer : Prop :=
  ∀ (s : State) (nn : Word),
    rowIs (.ldAtImm16Sp nn) [0x08, lo nn, hi nn] 20 none ∧
    (writeFaults nn = false → writeFaults (nn + 1) = false → ∃ u t, memWrite s nn (lo s.sp) = .ok u ∧
      memWrite u (nn + 1) (hi s.sp) = .ok t ∧ exec (.ldAtImm16Sp nn) s = .next t) ∧
    (writeFaults nn = true → faultsAt nn s (exec (.ldAtImm16Sp nn) s)) ∧
    (writeFaults nn = false → writeFaults (nn + 1) = true →
      ∃ u, memWrite s nn (lo s.sp) = .ok u ∧ faultsAt (nn + 1) u (exec (.ldAtImm16Sp nn) s))

/-- R193, R251: the flags from the low byte of SP and the raw byte, the result with the signed displacement. The rule of H
and C is the spec's own decision (D10). -/
def Obligations.StackPointerPlusDisplacement : Prop :=
  ∀ (s : State) (b : Byte),
    let h := decide (s.sp.toNat % 8 + b.toNat % 8 > 7)
    let c := decide (s.sp.toNat % 256 + b.toNat > 255)
    rowIs (.ldHlSpRel b) [0xF8, b] 12 none ∧
    (∃ w, displaced s.sp b w ∧ flagged { s with h := hi w, l := lo w } false false h c (exec (.ldHlSpRel b) s)) ∧
    rowIs (.addSpRel b) [0xE8, b] 16 none ∧
    ∃ w, displaced s.sp b w ∧ flagged { s with sp := w } false false h c (exec (.addSpRel b) s)

/-- R194, R197. -/
def Obligations.PushPair : Prop :=
  ∀ (s : State) (p : StackPair),
    rowIs (.pushPair p) [0xC5 + 16 * stackCode p] 16 none ∧ pushes (s.stackPair p) s (exec (.pushPair p) s) id

/-- R195, R196, R198: the low register gets the byte read first; F gets its high nibble only. The mask on F is the spec's own
decision (D35). -/
def Obligations.PopPair : Prop :=
  ∀ s : State,
    (rowIs .popBc [0xC1] 12 none ∧ pops s (exec .popBc s) fun high low t => { t with b := high, c := low }) ∧
    (rowIs .popDe [0xD1] 12 none ∧ pops s (exec .popDe s) fun high low t => { t with d := high, e := low }) ∧
    (rowIs .popHl [0xE1] 12 none ∧ pops s (exec .popHl s) fun high low t => { t with h := high, l := low }) ∧
    (rowIs .popAf [0xF1] 12 none ∧ pops s (exec .popAf s) fun high low t => { t with a := high, f := low &&& 0xF0 })

/-- What is pushed into RAM is popped: after PUSH p and POP q, q holds what p held (AF without the low nibble), SP is back
and nothing else but memory has changed (R194 to R198). -/
def Obligations.PushThenPop : Prop :=
  ∀ (s : State) (p q : StackPair), ramAddress (s.sp - 1) = true → ramAddress (s.sp - 2) = true →
    ∃ t u, exec (.pushPair p) s = .next t ∧ exec (.popPair q) t = .next u ∧
      u = { s.setStackPair q (s.stackPair p) with mem := t.mem }

/-! ### 16-bit arithmetic, accumulator rotates and the rest of 45_alu16_misc.md -/

/-- R250, R146: Z is kept; H and C are the carries out of bits 11 and 15. The two carries follow the spec's decision D33. -/
def Obligations.AddPairToHl : Prop :=
  ∀ (s : State) (p : Pair),
    rowIs (.addHlPair p) [0x09 + 16 * pairCode p] 8 none ∧
    ∃ w : Word, w.toNat = (s.hl.toNat + (s.pair p).toNat) % 65536 ∧
      flagged { s with h := hi w, l := lo w } s.flagZ false
        (decide (s.hl.toNat % 4096 + (s.pair p).toNat % 4096 > 4095)) (decide (s.hl.toNat + (s.pair p).toNat > 65535))
        (exec (.addHlPair p) s)

/-- R252, R253: no flag is written; the result wraps. -/
def Obligations.IncrementDecrementPair : Prop :=
  ∀ (s : State) (p : Pair),
    rowIs (.incPair p) [0x03 + 16 * pairCode p] 8 none ∧ exec (.incPair p) s = .next (s.setPair p (s.pair p + 1)) ∧
    rowIs (.decPair p) [0x0B + 16 * pairCode p] 8 none ∧ exec (.decPair p) s = .next (s.setPair p (s.pair p - 1)) ∧
    ∀ w, (s.setPair p w).pair p = w

/-- R254 to R257, with ACC_ROT_Z = clear. Z clear is the spec's default of ACC_ROT_Z (D11), which the model fixes (log entry
4). -/
def Obligations.RotateAccumulator : Prop :=
  ∀ s : State,
    (rowIs .rlca [0x07] 4 none ∧
      flagged { s with a := s.a.rotateLeft 1 } false false false (s.a.getLsbD 7) (exec .rlca s)) ∧
    (rowIs .rrca [0x0F] 4 none ∧
      flagged { s with a := s.a.rotateRight 1 } false false false (s.a.getLsbD 0) (exec .rrca s)) ∧
    (rowIs .rla [0x17] 4 none ∧
      flagged { s with a := s.a <<< 1 ||| (if s.flagC then 0x01 else 0x00) } false false false (s.a.getLsbD 7)
        (exec .rla s)) ∧
    (rowIs .rra [0x1F] 4 none ∧
      flagged { s with a := s.a >>> 1 ||| (if s.flagC then 0x80 else 0x00) } false false false (s.a.getLsbD 0)
        (exec .rra s))

/-- R258. The algorithm is the spec's own decision (D12). -/
def Obligations.DecimalAdjust : Prop :=
  rowIs .daa [0x27] 4 none ∧
  ∀ s : State,
    let a := s.a.toNat
    let adj := (if s.flagC = true ∨ (s.flagN = false ∧ a > 0x99) then 0x60 else 0) +
      (if s.flagH = true ∨ (s.flagN = false ∧ a % 16 > 9) then 0x06 else 0)
    let res := if s.flagN = true then (a + 256 - adj) % 256 else (a + adj) % 256
    flagged { s with a := BitVec.ofNat 8 res } (res == 0) s.flagN false
      (decide (s.flagC = true ∨ (s.flagN = false ∧ a > 0x99))) (exec .daa s)

/-- R259 to R262. Which flags change is the spec's own decision (D40). -/
def Obligations.ComplementAndCarryOps : Prop :=
  ∀ s : State,
    (rowIs .cpl [0x2F] 4 none ∧ flagged { s with a := s.a ^^^ 0xFF } s.flagZ true true s.flagC (exec .cpl s)) ∧
    (rowIs .scf [0x37] 4 none ∧ flagged s s.flagZ false false true (exec .scf s)) ∧
    (rowIs .ccf [0x3F] 4 none ∧ flagged s s.flagZ false false (!s.flagC) (exec .ccf s)) ∧
    (rowIs .nop [0x00] 4 none ∧ exec .nop s = .next s)

/-! ### Control transfer -/

/-- R270, R272, R273: PC is past the instruction when the displacement is added. The base of the relative jump (D27) and the
byte order of nn (D3) are the spec's own decisions. -/
def Obligations.Jumps : Prop :=
  ∀ s : State,
    (∀ nn, rowIs (.jpImm16 nn) [0xC3, lo nn, hi nn] 16 none ∧ exec (.jpImm16 nn) s = .next { s with pc := nn }) ∧
    (rowIs .jpHl [0xE9] 4 none ∧ exec .jpHl s = .next { s with pc := word s.h s.l }) ∧
    ∀ b, rowIs (.jrRel b) [0x18, b] 12 none ∧
      ∃ w, displaced s.pc b w ∧ exec (.jrRel b) s = .next { s with pc := w }

/-- R271, R274, R277. The base of the relative jump (D27) and a transfer not taken leaving PC after the instruction (D28) are
the spec's own decisions. -/
def Obligations.ConditionalJumps : Prop :=
  ∀ (s : State) (cc : Cond),
    (∀ nn, rowIs (.jpCond cc nn) [0xC2 + 8 * condCode cc, lo nn, hi nn] 16 (some 12) ∧
      conditional cc s (exec (.jpCond cc nn) s) (exec (.jpCond cc nn) s = .next { s with pc := nn })) ∧
    ∀ b, rowIs (.jrCond cc b) [0x20 + 8 * condCode cc, b] 12 (some 8) ∧
      conditional cc s (exec (.jrCond cc b) s)
        (∃ w, displaced s.pc b w ∧ exec (.jrCond cc b) s = .next { s with pc := w })

/-- R275, R276, R281: PC, the address after the instruction, is pushed; a push that raises leaves PC. A call not taken
leaving PC after the instruction is the spec's own decision (D28). -/
def Obligations.Calls : Prop :=
  ∀ s : State,
    (∀ nn, rowIs (.callImm16 nn) [0xCD, lo nn, hi nn] 24 none ∧
      pushes s.pc s (exec (.callImm16 nn) s) fun t => { t with pc := nn }) ∧
    (∀ cc nn, rowIs (.callCond cc nn) [0xC4 + 8 * condCode cc, lo nn, hi nn] 24 (some 12) ∧
      conditional cc s (exec (.callCond cc nn) s)
        (pushes s.pc s (exec (.callCond cc nn) s) fun t => { t with pc := nn })) ∧
    ∀ y : BitVec 3, rowIs (.rstTo y) [0xC7 + 8 * y.zeroExtend 8] 16 none ∧
      pushes s.pc s (exec (.rstTo y) s) fun t => { t with pc := 8 * y.zeroExtend 16 }

/-- R278, R279, R280. That RETI sets IME is the spec's own decision (D21). A return not taken leaving PC after the
instruction is the spec's own decision too (D28). -/
def Obligations.Returns : Prop :=
  ∀ s : State,
    (rowIs .ret [0xC9] 16 none ∧ pops s (exec .ret s) fun high low t => { t with pc := word high low }) ∧
    (∀ cc, rowIs (.retCond cc) [0xC0 + 8 * condCode cc] 20 (some 8) ∧
      conditional cc s (exec (.retCond cc) s)
        (pops s (exec (.retCond cc) s) fun high low t => { t with pc := word high low })) ∧
    (rowIs .reti [0xD9] 16 none ∧ pops s (exec .reti s) fun high low t => { t with pc := word high low, ime := true })

/-! ### The CB-prefixed instructions -/

/-- R313, R148: the eight rotates and shifts on the seven registers and on the byte at HL (R290 to R305). H clear after the
shifts and C clear after SWAP are the spec's own decision (D40). -/
def Obligations.RotatesAndShifts : Prop :=
  ∀ (s : State) (k : RotKind),
    let res (v : Byte) : Byte := BitVec.ofNat 8 (rotated k v.toNat s.flagC.toNat).1
    let cout (v : Byte) : Bool := (rotated k v.toNat s.flagC.toNat).2 == 1
    (∀ r, rowIs (.rotReg k r) [0xCB, 8 * rotCode k + regCode r] 8 none ∧
      flagged (s.setReg r (res (s.reg r))) (res (s.reg r) == 0) false false (cout (s.reg r)) (exec (.rotReg k r) s)) ∧
    rowIs (.rotAtHl k) [0xCB, 8 * rotCode k + 6] 16 none ∧
    modifiesAtHl s (exec (.rotAtHl k) s) res fun v s u => flagsAre (res v == 0) false false (cout v) s u

/-- R306, R307, R314: index 0 is the most significant bit; C is kept and the operand is not written. The flags N, H and C are
the spec's own decision (D40); the bit numbering is TSD's (D4). -/
def Obligations.TestBit : Prop :=
  ∀ (s : State) (n : BitVec 3),
    (∀ r, rowIs (.bitReg n r) [0xCB, 0x40 + 8 * n.zeroExtend 8 + regCode r] 8 none ∧
      flagged s (!(s.reg r).getMsbD n.toNat) false true s.flagC (exec (.bitReg n r) s)) ∧
    rowIs (.bitAtHl n) [0xCB, 0x46 + 8 * n.zeroExtend 8] 12 none ∧
    loadsAt s.hl s (exec (.bitAtHl n) s) fun v o => flagged s (!v.getMsbD n.toNat) false true s.flagC o

/-- R308, R309, R310, R311: no flag is written; BIT of the same index then finds the bit cleared, or set. That SET uses the
numbering of RES is the spec's own decision (D4). -/
def Obligations.ResetAndSetBit : Prop :=
  ∀ (s : State) (n : BitVec 3),
    (∀ r, rowIs (.resReg n r) [0xCB, 0x80 + 8 * n.zeroExtend 8 + regCode r] 8 none ∧
      rowIs (.setReg n r) [0xCB, 0xC0 + 8 * n.zeroExtend 8 + regCode r] 8 none ∧
      (∃ t u, exec (.resReg n r) s = .next t ∧ t = s.setReg r (s.reg r &&& ~~~indexMask n) ∧
        exec (.bitReg n r) t = .next u ∧ u.flagZ = true) ∧
      (∃ t u, exec (.setReg n r) s = .next t ∧ t = s.setReg r (s.reg r ||| indexMask n) ∧
        exec (.bitReg n r) t = .next u ∧ u.flagZ = false)) ∧
    (rowIs (.resAtHl n) [0xCB, 0x86 + 8 * n.zeroExtend 8] 16 none ∧
      modifiesAtHl s (exec (.resAtHl n) s) (· &&& ~~~indexMask n) fun _ s u => u = s) ∧
    (rowIs (.setAtHl n) [0xCB, 0xC6 + 8 * n.zeroExtend 8] 16 none ∧
      modifiesAtHl s (exec (.setAtHl n) s) (· ||| indexMask n) fun _ s u => u = s)

/-! ### System instructions -/

/-- R320, R321: the step of HALT or STOP completes, PC past its bytes, the clocks moved by 4 and 1; then there is no step.
The whole effect is the spec's own decision (D22). -/
def Obligations.HaltAndStopLeaveMachineStuck : Prop :=
  (rowIs .halt [0x76] 4 none ∧ ∀ n, rowIs (.stop n) [0x10, n] 4 none) ∧
  (∀ s : State, exec .halt s = .next { s with halted := true } ∧
    ∀ n, exec (.stop n) s = .next { s with halted := true }) ∧
  ∀ (s : State) (bytes : List Byte), (bytes = [0x76] ∨ ∃ n, bytes = [0x10, n]) → s.fault = none → s.halted = false →
    bytesAt s s.pc bytes →
    ∃ t, step s = .next t ∧ t.halted = true ∧ t.pc = s.pc + BitVec.ofNat 16 bytes.length ∧ t.mClock = s.mClock + 4 ∧
      t.tClock = s.tClock + 1 ∧ t.gpu = (s.gpu.advance 1).check s.mem ∧ step t = .fault .noStepHalted

/-- R322, R323. IME and what writes it are the spec's own decision (D21). -/
def Obligations.InterruptEnableBit : Prop :=
  rowIs .di [0xF3] 4 none ∧ rowIs .ei [0xFB] 4 none ∧
  ∀ s : State, exec .di s = .next { s with ime := false } ∧ exec .ei s = .next { s with ime := true }

/-! ### Frames, over every instruction -/

/-- The registers, flags, SP and PC an instruction does not write are unchanged (R24, R25, R27, R150). -/
def Obligations.FrameOfRegisters : Prop :=
  ∀ (i : Instr) (s t : State), exec i s = .next t →
    (∀ r, r ∉ regsWritten i → t.reg r = s.reg r) ∧ t.f &&& ~~~flagsWritten i = s.f &&& ~~~flagsWritten i ∧
    (firstByte i ∉ spWriters → t.sp = s.sp) ∧ (firstByte i ∉ pcWriters → t.pc = s.pc)

/-- Every byte of memory an instruction's stores do not reach reads as before (R76, R77). -/
def Obligations.FrameOfMemory : Prop :=
  ∀ (i : Instr) (s t : State), exec i s = .next t →
    ∀ b : Word, (∀ a ∈ storeAddrs i s, ¬ storeReaches a b) → memRead t b = memRead s b

/-- What only some instructions, or none, may change: the clocks, the fault record, the images and the GPU's position and frame
never; IME by DI, EI and RETI; `halted` by HALT and STOP; `notTaken` by the conditional transfers; the serial output and
the overlay bit only by a store to their address (R29, R30, R31, R36, R67, R69, R125, R126). -/
def Obligations.FrameOfSpecialState : Prop :=
  ∀ (i : Instr) (s t : State), exec i s = .next t →
    (t.fault = s.fault ∧ t.mClock = s.mClock ∧ t.tClock = s.tClock ∧ t.bios = s.bios) ∧
    (t.gpu.mode = s.gpu.mode ∧ t.gpu.line = s.gpu.line ∧ t.gpu.modeClock = s.gpu.modeClock ∧
      t.gpu.frameBuffer = s.gpu.frameBuffer ∧ t.gpu.frameCount = s.gpu.frameCount) ∧
    (i ≠ .di → i ≠ .ei → i ≠ .reti → t.ime = s.ime) ∧
    (i ≠ .halt → (∀ n, i ≠ .stop n) → t.halted = s.halted) ∧
    ((cost i).notTaken = none → t.notTaken = s.notTaken) ∧
    (0xFF01 ∉ storeAddrs i s → t.serialOut = s.serialOut) ∧
    (0xFF50 ∉ storeAddrs i s → t.biosMapped = s.biosMapped)

/-! ### The GPU -/

/-- R336, R337: the advance, and the transition of the mode at entry, at most one. The comparison and the one transition per
check are the spec's own decision (D17). -/
def Obligations.GpuModeTransitions : Prop :=
  ∀ (mem : Memory) (g : Gpu) (n : Nat),
    g.advance n = { g with modeClock := g.modeClock + n } ∧
    (g.mode = .oamScan → g.check mem =
      if g.modeClock ≥ 80 then { g with modeClock := 0, mode := .vramRead } else g) ∧
    (g.mode = .vramRead → g.check mem =
      if g.modeClock ≥ 172 then { g with modeClock := 0, mode := .hBlank } else g) ∧
    (g.mode = .hBlank → g.check mem =
      if g.modeClock ≥ 204 then
        if g.line + 1 = 143 then Gpu.renderFrame mem { g with modeClock := 0, line := 143, mode := .vBlank }
        else { g with modeClock := 0, line := g.line + 1, mode := .oamScan }
      else g) ∧
    (g.mode = .vBlank → g.check mem =
      if g.modeClock ≥ 456 then
        if g.line + 1 > 153 then { g with modeClock := 0, line := 0, mode := .oamScan }
        else { g with modeClock := 0, line := g.line + 1 }
      else g)

/-- A scanline takes 456 units of one-unit steps, 80 + 172 + 204, as long as a line of VBlank; the line after 142 is the
first of VBlank, with one frame rendered, and the line after 153 is 0 (R338, R339 (a), (b), (c)). The comparison and the one
transition per check are the spec's own decision (D17). -/
def Obligations.ScanlineTakes456Units : Prop :=
  ∀ (mem : Memory) (g : Gpu), g.modeClock = 0 →
    (g.mode = .oamScan → g.line ≤ 142 →
      gpuUnits mem 79 g = { g with modeClock := 79 } ∧
      gpuUnits mem 80 g = { g with mode := .vramRead } ∧
      gpuUnits mem 252 g = { g with mode := .hBlank } ∧
      gpuUnits mem 456 g =
        if g.line = 142 then Gpu.renderFrame mem { g with line := 143, mode := .vBlank }
        else { g with line := g.line + 1 }) ∧
    (g.mode = .vBlank → g.line ≤ 153 →
      gpuUnits mem 456 g = if g.line = 153 then { g with line := 0, mode := .oamScan } else { g with line := g.line + 1 })

/-- R347, with R346, R348 and R349: a render rewrites all 144 rows of 160 cells from VRAM, LCDC and the scroll offsets,
counts one frame, and changes nothing else. The tile addresses and the bit order are the spec's own decision (D25). -/
def Obligations.RenderedFrame : Prop :=
  ∀ (mem : Memory) (g : Gpu),
    Gpu.renderFrame mem g =
      { g with frameBuffer := (Gpu.renderFrame mem g).frameBuffer, frameCount := g.frameCount + 1 } ∧
    frameShape (Gpu.renderFrame mem g).frameBuffer ∧
    ∀ y < 144, ∀ x < 160,
      (((Gpu.renderFrame mem g).frameBuffer.getD y []).getD x 0).toNat = renderedPixel mem g y x

/-! ### The implemented sets -/

/-- R6, with R100, R124 and R326: the default sets, and what a step does under any other sets and any setting of the other
parameters: a looked-up byte that is assigned but left out raises InstructionNotImplemented with the byte, its address and PC
one past it, and every other step is the step of the default sets. With the spec's settings of all parameters it is the
model's own step. The default sets are the spec's own decision (D1), which the model takes (log entry 4); the payload of a
miss in the CB-extended table is the spec's decision D30. -/
def Obligations.ImplementedSets : Prop :=
  ((∀ op, implSets.base op = true ↔ op ≠ 0xCB ∧ ∀ i, (op, i) ∉ unassignedRows) ∧ (∀ op2, implSets.cb op2 = true) ∧
    implSets.legal) ∧
  (∀ (cfg : Settings) (s : State),
    (∀ op, s.fault = none → s.halted = false → memRead s s.pc cfg = .ok op → implBase op = true →
      cfg.implSets.base op = false →
      stepIn cfg s = .fault (.raised (.instructionNotImplemented op s.pc)
        { s with pc := s.pc + 1, fault := some (.instructionNotImplemented op s.pc) })) ∧
    (∀ op2, s.fault = none → s.halted = false → memRead s s.pc cfg = .ok 0xCB → memRead s (s.pc + 1) cfg = .ok op2 →
      cfg.implSets.cb op2 = false →
      stepIn cfg s = .fault (.raised (.instructionNotImplemented op2 (s.pc + 1))
        { s with pc := s.pc + 2, fault := some (.instructionNotImplemented op2 (s.pc + 1)) })) ∧
    ((∀ op, memRead s s.pc cfg = .ok op → implBase op = true → cfg.implSets.base op = true) →
      (memRead s s.pc cfg = .ok 0xCB → ∀ op2, memRead s (s.pc + 1) cfg = .ok op2 → cfg.implSets.cb op2 = true) →
      stepIn cfg s = stepIn { cfg with implSets := implSets } s)) ∧
  ∀ s : State, stepIn settings s = step s
end

