-- ==== Sys2Proof/Laws/Memory.lean ====
section
/-! SUPPORT. The laws of the sparse memories: a read after a write, and that every operation keeps the canonical form. -/

namespace Sys2Proof.Machine

open Sys2Proof

/-! ### Reads after writes -/

theorem Memory.read_erase (m : Memory) (a b : Nat) :
    Memory.read (Memory.erase m a) b = if b = a then 0 else Memory.read m b := by
  induction m with
  | nil => simp [Memory.erase, Memory.read]
  | cons cell rest ih =>
    obtain ⟨k, v⟩ := cell
    by_cases hka : k = a
    · subst hka
      by_cases hb : b = k
      · rw [Memory.erase, if_pos rfl, ih, if_pos hb, if_pos hb]
      · simp [Memory.erase, Memory.read, ih, hb, Ne.symm hb]
    · by_cases hkb : k = b
      · subst hkb
        simp [Memory.erase, Memory.read, hka]
      · simp [Memory.erase, Memory.read, hka, hkb, ih]

theorem Memory.read_insert (m : Memory) (a b : Nat) (v : Byte) :
    Memory.read (Memory.insert m a v) b = if b = a then v else Memory.read m b := by
  induction m with
  | nil => simp [Memory.insert, Memory.read, eq_comm]
  | cons cell rest ih =>
    obtain ⟨k, w⟩ := cell
    by_cases hlt : a < k
    · simp [Memory.insert, Memory.read, hlt, eq_comm]
    · by_cases hka : k = a
      · subst hka
        by_cases hb : b = k
        · simp [Memory.insert, Memory.read, hb]
        · simp [Memory.insert, Memory.read, hb, Ne.symm hb]
      · by_cases hkb : k = b
        · subst hkb
          simp [Memory.insert, Memory.read, hlt, hka]
        · simp [Memory.insert, Memory.read, hlt, hka, hkb, ih]

/-- A read gives the byte last written there, and a write leaves every other place alone. -/
theorem Memory.read_write (m : Memory) (a b : Nat) (v : Byte) :
    Memory.read (Memory.write m a v) b = if b = a then v else Memory.read m b := by
  unfold Memory.write
  split
  · next h => simp [Memory.read_erase, h]
  · simp [Memory.read_insert]

@[simp] theorem Memory.read_write_same (m : Memory) (a : Nat) (v : Byte) :
    Memory.read (Memory.write m a v) a = v := by simp [Memory.read_write]

theorem Memory.read_write_other (m : Memory) (a b : Nat) (v : Byte) (h : b ≠ a) :
    Memory.read (Memory.write m a v) b = Memory.read m b := by simp [Memory.read_write, h]

/-! ### The canonical form -/

theorem Memory.wfFrom_mono {low low' : Nat} {m : Memory} (hm : Memory.wfFrom low m = true) (h : low' ≤ low) :
    Memory.wfFrom low' m = true := by
  cases m with
  | nil => rfl
  | cons cell rest =>
    simp only [Memory.wfFrom, Bool.and_eq_true, decide_eq_true_eq] at hm ⊢
    exact ⟨⟨h.trans hm.1.1, hm.1.2⟩, hm.2⟩

theorem Memory.wfFrom_erase {low : Nat} {m : Memory} (a : Nat) (hm : Memory.wfFrom low m = true) :
    Memory.wfFrom low (Memory.erase m a) = true := by
  induction m generalizing low with
  | nil => rfl
  | cons cell rest ih =>
    simp only [Memory.wfFrom, Bool.and_eq_true, decide_eq_true_eq] at hm
    simp only [Memory.erase]
    split
    · exact ih (Memory.wfFrom_mono hm.2 (by omega))
    · simp only [Memory.wfFrom, Bool.and_eq_true, decide_eq_true_eq]
      exact ⟨hm.1, ih hm.2⟩

theorem Memory.wfFrom_insert {low a : Nat} {m : Memory} {v : Byte} (hv : v ≠ 0) (ha : low ≤ a)
    (hm : Memory.wfFrom low m = true) : Memory.wfFrom low (Memory.insert m a v) = true := by
  induction m generalizing low with
  | nil => simpa [Memory.insert, Memory.wfFrom, ha] using hv
  | cons cell rest ih =>
    simp only [Memory.wfFrom, Bool.and_eq_true, decide_eq_true_eq] at hm
    simp only [Memory.insert]
    split
    · simp only [Memory.wfFrom, Bool.and_eq_true, decide_eq_true_eq]
      exact ⟨⟨ha, hv⟩, ⟨by omega, hm.1.2⟩, hm.2⟩
    · split
      · next h =>
        subst h
        simp only [Memory.wfFrom, Bool.and_eq_true, decide_eq_true_eq]
        exact ⟨⟨ha, hv⟩, hm.2⟩
      · simp only [Memory.wfFrom, Bool.and_eq_true, decide_eq_true_eq]
        exact ⟨hm.1, ih (by omega) hm.2⟩

/-- Every write keeps the canonical form. -/
theorem Memory.wf_write {m : Memory} (a : Nat) (v : Byte) (hm : Memory.wf m = true) :
    Memory.wf (Memory.write m a v) = true := by
  unfold Memory.write
  split
  · exact Memory.wfFrom_erase a hm
  · next hv => exact Memory.wfFrom_insert hv (Nat.zero_le a) hm

/-- Loading an image keeps the canonical form. -/
theorem Memory.wf_writeList {m : Memory} (a : Nat) (bytes : List Byte) (hm : Memory.wf m = true) :
    Memory.wf (Memory.writeList m a bytes) = true := by
  induction bytes generalizing m a with
  | nil => exact hm
  | cons v rest ih => exact ih _ (Memory.wf_write a v hm)

/-- The memories of the reset state are in canonical form. -/
theorem Memory.wf_reset : Memory.wf State.reset.mem = true ∧ Memory.wf State.reset.bios = true := ⟨rfl, rfl⟩

/-- Below the first address of the form nothing is listed. -/
theorem Memory.read_below {low : Nat} {m : Memory} (hm : Memory.wfFrom low m = true) {a : Nat} (h : a < low) :
    Memory.read m a = 0 := by
  induction m generalizing low with
  | nil => rfl
  | cons cell rest ih =>
    simp only [Memory.wfFrom, Bool.and_eq_true, decide_eq_true_eq] at hm
    have hne : ¬ cell.1 = a := by omega
    simp only [Memory.read, hne, if_false]
    exact ih hm.2 (by omega)

/-- Equal memories are equal data: two memories in canonical form that read alike are the same list. -/
theorem Memory.ext_of_wf {m m' : Memory} (hm : Memory.wf m = true) (hm' : Memory.wf m' = true)
    (h : ∀ a, Memory.read m a = Memory.read m' a) : m = m' := by
  unfold Memory.wf at hm hm'
  generalize 0 = low at hm hm'
  induction m generalizing low m' with
  | nil =>
    cases m' with
    | nil => rfl
    | cons cell rest =>
      simp only [Memory.wfFrom, Bool.and_eq_true, decide_eq_true_eq] at hm'
      have := h cell.1
      simp [Memory.read] at this
      exact absurd this.symm hm'.1.2
  | cons cell rest ih =>
    cases m' with
    | nil =>
      simp only [Memory.wfFrom, Bool.and_eq_true, decide_eq_true_eq] at hm
      have := h cell.1
      simp [Memory.read] at this
      exact absurd this hm.1.2
    | cons cell' rest' =>
      obtain ⟨k, v⟩ := cell
      obtain ⟨k', v'⟩ := cell'
      simp only [Memory.wfFrom, Bool.and_eq_true, decide_eq_true_eq] at hm hm'
      have hk : k = k' := by
        rcases Nat.lt_trichotomy k k' with hlt | heq | hgt
        · have h1 := h k
          have h2 : Memory.read rest' k = 0 := Memory.read_below hm'.2 (by omega)
          simp [Memory.read, h2, show ¬ k' = k by omega] at h1
          exact absurd h1 hm.1.2
        · exact heq
        · have h1 := h k'
          have h2 : Memory.read rest k' = 0 := Memory.read_below hm.2 (by omega)
          simp [Memory.read, h2, show ¬ k = k' by omega] at h1
          exact absurd h1.symm hm'.1.2
      subst hk
      have hv : v = v' := by simpa [Memory.read] using h k
      subst hv
      have hrest : ∀ a, Memory.read rest a = Memory.read rest' a := by
        intro a
        by_cases ha : a ≤ k
        · rw [Memory.read_below hm.2 (by omega), Memory.read_below hm'.2 (by omega)]
        · have := h a
          simpa [Memory.read, show ¬ k = a by omega] using this
      rw [ih hrest (k + 1) hm.2 hm'.2]

end Sys2Proof.Machine
end

