-- ==== Sys2Proof/Laws/State.lean ====
section
/-! SUPPORT. The small lemmas of the state's accessors: each field after each named update, so that no proof unfolds one. -/

namespace Sys2Proof.Machine

open Sys2Proof

/-! ### A register write -/

@[simp] theorem State.reg_b (s : State) : s.reg .b = s.b := rfl
@[simp] theorem State.reg_c (s : State) : s.reg .c = s.c := rfl
@[simp] theorem State.reg_d (s : State) : s.reg .d = s.d := rfl
@[simp] theorem State.reg_e (s : State) : s.reg .e = s.e := rfl
@[simp] theorem State.reg_h (s : State) : s.reg .h = s.h := rfl
@[simp] theorem State.reg_l (s : State) : s.reg .l = s.l := rfl
@[simp] theorem State.reg_a (s : State) : s.reg .a = s.a := rfl
@[simp] theorem State.setReg_b (s : State) (v : Byte) : s.setReg .b v = { s with b := v } := rfl
@[simp] theorem State.setReg_c (s : State) (v : Byte) : s.setReg .c v = { s with c := v } := rfl
@[simp] theorem State.setReg_d (s : State) (v : Byte) : s.setReg .d v = { s with d := v } := rfl
@[simp] theorem State.setReg_e (s : State) (v : Byte) : s.setReg .e v = { s with e := v } := rfl
@[simp] theorem State.setReg_h (s : State) (v : Byte) : s.setReg .h v = { s with h := v } := rfl
@[simp] theorem State.setReg_l (s : State) (v : Byte) : s.setReg .l v = { s with l := v } := rfl
@[simp] theorem State.setReg_a (s : State) (v : Byte) : s.setReg .a v = { s with a := v } := rfl
@[simp] theorem State.setReg_keeps_f (s : State) (r : Reg8) (v : Byte) : (s.setReg r v).f = s.f := by cases r <;> rfl
@[simp] theorem State.setReg_keeps_sp (s : State) (r : Reg8) (v : Byte) : (s.setReg r v).sp = s.sp := by cases r <;> rfl
@[simp] theorem State.setReg_keeps_pc (s : State) (r : Reg8) (v : Byte) : (s.setReg r v).pc = s.pc := by cases r <;> rfl
@[simp] theorem State.setReg_keeps_ime (s : State) (r : Reg8) (v : Byte) : (s.setReg r v).ime = s.ime := by cases r <;> rfl
@[simp] theorem State.setReg_keeps_halted (s : State) (r : Reg8) (v : Byte) : (s.setReg r v).halted = s.halted := by cases r <;> rfl
@[simp] theorem State.setReg_keeps_fault (s : State) (r : Reg8) (v : Byte) : (s.setReg r v).fault = s.fault := by cases r <;> rfl
@[simp] theorem State.setReg_keeps_mClock (s : State) (r : Reg8) (v : Byte) : (s.setReg r v).mClock = s.mClock := by cases r <;> rfl
@[simp] theorem State.setReg_keeps_tClock (s : State) (r : Reg8) (v : Byte) : (s.setReg r v).tClock = s.tClock := by cases r <;> rfl
@[simp] theorem State.setReg_keeps_notTaken (s : State) (r : Reg8) (v : Byte) : (s.setReg r v).notTaken = s.notTaken := by cases r <;> rfl
@[simp] theorem State.setReg_keeps_biosMapped (s : State) (r : Reg8) (v : Byte) : (s.setReg r v).biosMapped = s.biosMapped := by cases r <;> rfl
@[simp] theorem State.setReg_keeps_bios (s : State) (r : Reg8) (v : Byte) : (s.setReg r v).bios = s.bios := by cases r <;> rfl
@[simp] theorem State.setReg_keeps_mem (s : State) (r : Reg8) (v : Byte) : (s.setReg r v).mem = s.mem := by cases r <;> rfl
@[simp] theorem State.setReg_keeps_serialOut (s : State) (r : Reg8) (v : Byte) : (s.setReg r v).serialOut = s.serialOut := by cases r <;> rfl
@[simp] theorem State.setReg_keeps_gpu (s : State) (r : Reg8) (v : Byte) : (s.setReg r v).gpu = s.gpu := by cases r <;> rfl

/-- A register read after a register write. -/
theorem State.reg_setReg (s : State) (r r' : Reg8) (v : Byte) :
    (s.setReg r v).reg r' = if r' = r then v else s.reg r' := by
  cases r <;> cases r' <;> rfl

/-! ### The flags -/

@[simp] theorem State.setFlags_keeps_a (s : State) (z n h c : Option Bool) : (s.setFlags z n h c).a = s.a := rfl
@[simp] theorem State.setFlags_keeps_b (s : State) (z n h c : Option Bool) : (s.setFlags z n h c).b = s.b := rfl
@[simp] theorem State.setFlags_keeps_c (s : State) (z n h c : Option Bool) : (s.setFlags z n h c).c = s.c := rfl
@[simp] theorem State.setFlags_keeps_d (s : State) (z n h c : Option Bool) : (s.setFlags z n h c).d = s.d := rfl
@[simp] theorem State.setFlags_keeps_e (s : State) (z n h c : Option Bool) : (s.setFlags z n h c).e = s.e := rfl
@[simp] theorem State.setFlags_keeps_h (s : State) (z n h c : Option Bool) : (s.setFlags z n h c).h = s.h := rfl
@[simp] theorem State.setFlags_keeps_l (s : State) (z n h c : Option Bool) : (s.setFlags z n h c).l = s.l := rfl
@[simp] theorem State.setFlags_keeps_sp (s : State) (z n h c : Option Bool) : (s.setFlags z n h c).sp = s.sp := rfl
@[simp] theorem State.setFlags_keeps_pc (s : State) (z n h c : Option Bool) : (s.setFlags z n h c).pc = s.pc := rfl
@[simp] theorem State.setFlags_keeps_ime (s : State) (z n h c : Option Bool) : (s.setFlags z n h c).ime = s.ime := rfl
@[simp] theorem State.setFlags_keeps_halted (s : State) (z n h c : Option Bool) : (s.setFlags z n h c).halted = s.halted := rfl
@[simp] theorem State.setFlags_keeps_fault (s : State) (z n h c : Option Bool) : (s.setFlags z n h c).fault = s.fault := rfl
@[simp] theorem State.setFlags_keeps_mClock (s : State) (z n h c : Option Bool) : (s.setFlags z n h c).mClock = s.mClock := rfl
@[simp] theorem State.setFlags_keeps_tClock (s : State) (z n h c : Option Bool) : (s.setFlags z n h c).tClock = s.tClock := rfl
@[simp] theorem State.setFlags_keeps_notTaken (s : State) (z n h c : Option Bool) : (s.setFlags z n h c).notTaken = s.notTaken := rfl
@[simp] theorem State.setFlags_keeps_biosMapped (s : State) (z n h c : Option Bool) : (s.setFlags z n h c).biosMapped = s.biosMapped := rfl
@[simp] theorem State.setFlags_keeps_bios (s : State) (z n h c : Option Bool) : (s.setFlags z n h c).bios = s.bios := rfl
@[simp] theorem State.setFlags_keeps_mem (s : State) (z n h c : Option Bool) : (s.setFlags z n h c).mem = s.mem := rfl
@[simp] theorem State.setFlags_keeps_serialOut (s : State) (z n h c : Option Bool) : (s.setFlags z n h c).serialOut = s.serialOut := rfl
@[simp] theorem State.setFlags_keeps_gpu (s : State) (z n h c : Option Bool) : (s.setFlags z n h c).gpu = s.gpu := rfl
@[simp] theorem State.setFlags_keeps_reg (s : State) (z n h c : Option Bool) (r : Reg8) :
    (s.setFlags z n h c).reg r = s.reg r := by cases r <;> rfl

/-- One bit of F after a flag write: a bit of the mask takes the value given, the others stay. -/
theorem putFlag_getElem (mask f : Byte) (v : Option Bool) (j : Nat) (hj : j < 8) :
    (putFlag mask v f)[j] = if mask[j] then v.getD f[j] else f[j] := by
  rcases v with _ | _ | _ <;> simp [putFlag] <;> cases mask[j] <;> simp

@[simp] theorem State.flagZ_setFlags (s : State) (z n h c : Option Bool) :
    (s.setFlags z n h c).flagZ = z.getD s.flagZ := by
  simp [State.setFlags, State.flagZ, putFlag_getElem]

@[simp] theorem State.flagN_setFlags (s : State) (z n h c : Option Bool) :
    (s.setFlags z n h c).flagN = n.getD s.flagN := by
  simp [State.setFlags, State.flagN, putFlag_getElem]

@[simp] theorem State.flagH_setFlags (s : State) (z n h c : Option Bool) :
    (s.setFlags z n h c).flagH = h.getD s.flagH := by
  simp [State.setFlags, State.flagH, putFlag_getElem]

@[simp] theorem State.flagC_setFlags (s : State) (z n h c : Option Bool) :
    (s.setFlags z n h c).flagC = c.getD s.flagC := by
  simp [State.setFlags, State.flagC, putFlag_getElem]

/-- A flag write with a mask in the high nibble leaves the low nibble of F. -/
theorem putFlag_low (mask f : Byte) (v : Option Bool) (hm : mask &&& 0x0F = 0) :
    putFlag mask v f &&& 0x0F = f &&& 0x0F := by
  rcases v with _ | _ | _
  · rfl
  · show f &&& ~~~mask &&& 0x0F = f &&& 0x0F
    have h0 : ~~~mask &&& 0x0F = 0x0F := by
      revert hm; revert mask; decide
    rw [BitVec.and_assoc, h0]
  · show (f ||| mask) &&& 0x0F = f &&& 0x0F
    rw [BitVec.and_comm, BitVec.and_or_distrib_left, BitVec.and_comm _ mask, hm]
    simp [BitVec.and_comm]

/-- No flag write touches the low nibble of F (R26). -/
@[simp] theorem State.setFlags_low (s : State) (z n h c : Option Bool) :
    (s.setFlags z n h c).f &&& 0x0F = s.f &&& 0x0F := by
  simp only [State.setFlags]
  rw [putFlag_low _ _ _ (by decide), putFlag_low _ _ _ (by decide), putFlag_low _ _ _ (by decide),
    putFlag_low _ _ _ (by decide)]

/-- A register write touches no flag. -/
@[simp] theorem State.setReg_flagZ (s : State) (r : Reg8) (v : Byte) : (s.setReg r v).flagZ = s.flagZ := by
  simp [State.flagZ]
@[simp] theorem State.setReg_flagN (s : State) (r : Reg8) (v : Byte) : (s.setReg r v).flagN = s.flagN := by
  simp [State.flagN]
@[simp] theorem State.setReg_flagH (s : State) (r : Reg8) (v : Byte) : (s.setReg r v).flagH = s.flagH := by
  simp [State.flagH]
@[simp] theorem State.setReg_flagC (s : State) (r : Reg8) (v : Byte) : (s.setReg r v).flagC = s.flagC := by
  simp [State.flagC]

/-! ### Pairs (R22) -/

/-- One bit of a word made of two bytes. -/
theorem word_getLsbD (high low : Byte) (i : Nat) :
    (word high low).getLsbD i = if i < 8 then low.getLsbD i else high.getLsbD (i - 8) := by
  have h : (high ++ low : BitVec (8 + 8)).getLsbD i = _ := BitVec.getLsbD_append
  simpa [word] using h

@[simp] theorem hi_word (high low : Byte) : hi (word high low) = high := by
  apply BitVec.eq_of_getLsbD_eq
  intro i h
  rw [hi, BitVec.getLsbD_extractLsb', word_getLsbD]
  simp [h]

@[simp] theorem lo_word (high low : Byte) : lo (word high low) = low := by
  apply BitVec.eq_of_getLsbD_eq
  intro i h
  rw [lo, BitVec.getLsbD_extractLsb', word_getLsbD]
  simp [h]

/-- `word(hi(w), lo(w)) = w` (95_test_vectors.md S1). -/
@[simp] theorem word_hi_lo (w : Word) : word (hi w) (lo w) = w := by
  apply BitVec.eq_of_getLsbD_eq
  intro i h
  rw [word_getLsbD, hi, lo, BitVec.getLsbD_extractLsb', BitVec.getLsbD_extractLsb']
  by_cases h8 : i < 8
  · simp [h8]
  · simp [h8, show i - 8 < 8 by omega, show 8 + (i - 8) = i by omega]

/-- A pair read after a write of the same pair (R22). -/
@[simp] theorem State.pair_setPair (s : State) (p : Pair) (w : Word) : (s.setPair p w).pair p = w := by
  cases p <;> simp [State.setPair, State.pair, State.bc, State.de, State.hl, State.setHl]

/-- HL after a write of HL (R22). -/
@[simp] theorem State.hl_setHl (s : State) (w : Word) : (s.setHl w).hl = w := by
  simp [State.setHl, State.hl]

@[simp] theorem State.setHl_keeps_a (s : State) (w : Word) : (s.setHl w).a = s.a := rfl
@[simp] theorem State.setHl_keeps_b (s : State) (w : Word) : (s.setHl w).b = s.b := rfl
@[simp] theorem State.setHl_keeps_c (s : State) (w : Word) : (s.setHl w).c = s.c := rfl
@[simp] theorem State.setHl_keeps_d (s : State) (w : Word) : (s.setHl w).d = s.d := rfl
@[simp] theorem State.setHl_keeps_e (s : State) (w : Word) : (s.setHl w).e = s.e := rfl
@[simp] theorem State.setHl_keeps_f (s : State) (w : Word) : (s.setHl w).f = s.f := rfl
@[simp] theorem State.setHl_keeps_sp (s : State) (w : Word) : (s.setHl w).sp = s.sp := rfl
@[simp] theorem State.setHl_keeps_pc (s : State) (w : Word) : (s.setHl w).pc = s.pc := rfl
@[simp] theorem State.setHl_keeps_ime (s : State) (w : Word) : (s.setHl w).ime = s.ime := rfl
@[simp] theorem State.setHl_keeps_halted (s : State) (w : Word) : (s.setHl w).halted = s.halted := rfl
@[simp] theorem State.setHl_keeps_fault (s : State) (w : Word) : (s.setHl w).fault = s.fault := rfl
@[simp] theorem State.setHl_keeps_mClock (s : State) (w : Word) : (s.setHl w).mClock = s.mClock := rfl
@[simp] theorem State.setHl_keeps_tClock (s : State) (w : Word) : (s.setHl w).tClock = s.tClock := rfl
@[simp] theorem State.setHl_keeps_notTaken (s : State) (w : Word) : (s.setHl w).notTaken = s.notTaken := rfl
@[simp] theorem State.setHl_keeps_biosMapped (s : State) (w : Word) : (s.setHl w).biosMapped = s.biosMapped := rfl
@[simp] theorem State.setHl_keeps_bios (s : State) (w : Word) : (s.setHl w).bios = s.bios := rfl
@[simp] theorem State.setHl_keeps_mem (s : State) (w : Word) : (s.setHl w).mem = s.mem := rfl
@[simp] theorem State.setHl_keeps_serialOut (s : State) (w : Word) : (s.setHl w).serialOut = s.serialOut := rfl
@[simp] theorem State.setHl_keeps_gpu (s : State) (w : Word) : (s.setHl w).gpu = s.gpu := rfl
@[simp] theorem State.setPair_keeps_f (s : State) (p : Pair) (w : Word) : (s.setPair p w).f = s.f := by cases p <;> rfl
@[simp] theorem State.setPair_keeps_pc (s : State) (p : Pair) (w : Word) : (s.setPair p w).pc = s.pc := by cases p <;> rfl
@[simp] theorem State.setPair_keeps_ime (s : State) (p : Pair) (w : Word) : (s.setPair p w).ime = s.ime := by cases p <;> rfl
@[simp] theorem State.setPair_keeps_halted (s : State) (p : Pair) (w : Word) : (s.setPair p w).halted = s.halted := by cases p <;> rfl
@[simp] theorem State.setPair_keeps_fault (s : State) (p : Pair) (w : Word) : (s.setPair p w).fault = s.fault := by cases p <;> rfl
@[simp] theorem State.setPair_keeps_mClock (s : State) (p : Pair) (w : Word) : (s.setPair p w).mClock = s.mClock := by cases p <;> rfl
@[simp] theorem State.setPair_keeps_tClock (s : State) (p : Pair) (w : Word) : (s.setPair p w).tClock = s.tClock := by cases p <;> rfl
@[simp] theorem State.setPair_keeps_notTaken (s : State) (p : Pair) (w : Word) : (s.setPair p w).notTaken = s.notTaken := by cases p <;> rfl
@[simp] theorem State.setPair_keeps_biosMapped (s : State) (p : Pair) (w : Word) : (s.setPair p w).biosMapped = s.biosMapped := by cases p <;> rfl
@[simp] theorem State.setPair_keeps_bios (s : State) (p : Pair) (w : Word) : (s.setPair p w).bios = s.bios := by cases p <;> rfl
@[simp] theorem State.setPair_keeps_mem (s : State) (p : Pair) (w : Word) : (s.setPair p w).mem = s.mem := by cases p <;> rfl
@[simp] theorem State.setPair_keeps_serialOut (s : State) (p : Pair) (w : Word) : (s.setPair p w).serialOut = s.serialOut := by cases p <;> rfl
@[simp] theorem State.setPair_keeps_gpu (s : State) (p : Pair) (w : Word) : (s.setPair p w).gpu = s.gpu := by cases p <;> rfl
@[simp] theorem State.setStackPair_keeps_sp (s : State) (p : StackPair) (w : Word) : (s.setStackPair p w).sp = s.sp := by cases p <;> rfl
@[simp] theorem State.setStackPair_keeps_pc (s : State) (p : StackPair) (w : Word) : (s.setStackPair p w).pc = s.pc := by cases p <;> rfl
@[simp] theorem State.setStackPair_keeps_ime (s : State) (p : StackPair) (w : Word) : (s.setStackPair p w).ime = s.ime := by cases p <;> rfl
@[simp] theorem State.setStackPair_keeps_halted (s : State) (p : StackPair) (w : Word) : (s.setStackPair p w).halted = s.halted := by cases p <;> rfl
@[simp] theorem State.setStackPair_keeps_fault (s : State) (p : StackPair) (w : Word) : (s.setStackPair p w).fault = s.fault := by cases p <;> rfl
@[simp] theorem State.setStackPair_keeps_mClock (s : State) (p : StackPair) (w : Word) : (s.setStackPair p w).mClock = s.mClock := by cases p <;> rfl
@[simp] theorem State.setStackPair_keeps_tClock (s : State) (p : StackPair) (w : Word) : (s.setStackPair p w).tClock = s.tClock := by cases p <;> rfl
@[simp] theorem State.setStackPair_keeps_notTaken (s : State) (p : StackPair) (w : Word) : (s.setStackPair p w).notTaken = s.notTaken := by cases p <;> rfl
@[simp] theorem State.setStackPair_keeps_biosMapped (s : State) (p : StackPair) (w : Word) : (s.setStackPair p w).biosMapped = s.biosMapped := by cases p <;> rfl
@[simp] theorem State.setStackPair_keeps_bios (s : State) (p : StackPair) (w : Word) : (s.setStackPair p w).bios = s.bios := by cases p <;> rfl
@[simp] theorem State.setStackPair_keeps_mem (s : State) (p : StackPair) (w : Word) : (s.setStackPair p w).mem = s.mem := by cases p <;> rfl
@[simp] theorem State.setStackPair_keeps_serialOut (s : State) (p : StackPair) (w : Word) : (s.setStackPair p w).serialOut = s.serialOut := by cases p <;> rfl
@[simp] theorem State.setStackPair_keeps_gpu (s : State) (p : StackPair) (w : Word) : (s.setStackPair p w).gpu = s.gpu := by cases p <;> rfl

/-! ### A byte of a region -/

@[simp] theorem State.setRegionByte_keeps_a (s : State) (r : Region) (a : Nat) (v : Byte) : (s.setRegionByte r a v).a = s.a := by cases r <;> rfl
@[simp] theorem State.setRegionByte_keeps_b (s : State) (r : Region) (a : Nat) (v : Byte) : (s.setRegionByte r a v).b = s.b := by cases r <;> rfl
@[simp] theorem State.setRegionByte_keeps_c (s : State) (r : Region) (a : Nat) (v : Byte) : (s.setRegionByte r a v).c = s.c := by cases r <;> rfl
@[simp] theorem State.setRegionByte_keeps_d (s : State) (r : Region) (a : Nat) (v : Byte) : (s.setRegionByte r a v).d = s.d := by cases r <;> rfl
@[simp] theorem State.setRegionByte_keeps_e (s : State) (r : Region) (a : Nat) (v : Byte) : (s.setRegionByte r a v).e = s.e := by cases r <;> rfl
@[simp] theorem State.setRegionByte_keeps_h (s : State) (r : Region) (a : Nat) (v : Byte) : (s.setRegionByte r a v).h = s.h := by cases r <;> rfl
@[simp] theorem State.setRegionByte_keeps_l (s : State) (r : Region) (a : Nat) (v : Byte) : (s.setRegionByte r a v).l = s.l := by cases r <;> rfl
@[simp] theorem State.setRegionByte_keeps_f (s : State) (r : Region) (a : Nat) (v : Byte) : (s.setRegionByte r a v).f = s.f := by cases r <;> rfl
@[simp] theorem State.setRegionByte_keeps_sp (s : State) (r : Region) (a : Nat) (v : Byte) : (s.setRegionByte r a v).sp = s.sp := by cases r <;> rfl
@[simp] theorem State.setRegionByte_keeps_pc (s : State) (r : Region) (a : Nat) (v : Byte) : (s.setRegionByte r a v).pc = s.pc := by cases r <;> rfl
@[simp] theorem State.setRegionByte_keeps_ime (s : State) (r : Region) (a : Nat) (v : Byte) : (s.setRegionByte r a v).ime = s.ime := by cases r <;> rfl
@[simp] theorem State.setRegionByte_keeps_halted (s : State) (r : Region) (a : Nat) (v : Byte) : (s.setRegionByte r a v).halted = s.halted := by cases r <;> rfl
@[simp] theorem State.setRegionByte_keeps_fault (s : State) (r : Region) (a : Nat) (v : Byte) : (s.setRegionByte r a v).fault = s.fault := by cases r <;> rfl
@[simp] theorem State.setRegionByte_keeps_mClock (s : State) (r : Region) (a : Nat) (v : Byte) : (s.setRegionByte r a v).mClock = s.mClock := by cases r <;> rfl
@[simp] theorem State.setRegionByte_keeps_tClock (s : State) (r : Region) (a : Nat) (v : Byte) : (s.setRegionByte r a v).tClock = s.tClock := by cases r <;> rfl
@[simp] theorem State.setRegionByte_keeps_notTaken (s : State) (r : Region) (a : Nat) (v : Byte) : (s.setRegionByte r a v).notTaken = s.notTaken := by cases r <;> rfl
@[simp] theorem State.setRegionByte_keeps_biosMapped (s : State) (r : Region) (a : Nat) (v : Byte) : (s.setRegionByte r a v).biosMapped = s.biosMapped := by cases r <;> rfl
@[simp] theorem State.setRegionByte_keeps_serialOut (s : State) (r : Region) (a : Nat) (v : Byte) : (s.setRegionByte r a v).serialOut = s.serialOut := by cases r <;> rfl
@[simp] theorem State.setRegionByte_keeps_gpu (s : State) (r : Region) (a : Nat) (v : Byte) : (s.setRegionByte r a v).gpu = s.gpu := by cases r <;> rfl

end Sys2Proof.Machine
end

