-- ==== Sys2Proof/Laws/Bus.lean ====
section
/-! SUPPORT. What the address decode, a bus read and a bus write can do: one lemma each, cited instead of unfolding them. -/

namespace Sys2Proof.Machine

open Sys2Proof

/-! ### The settings -/

@[simp] theorem settings_implSets : settings.implSets = implSets := rfl
@[simp] theorem settings_flagPredicates : settings.flagPredicates = flagPredicates := rfl
@[simp] theorem settings_bitNum : settings.bitNum = Params.bitNum := rfl
@[simp] theorem settings_accRotZ : settings.accRotZ = Params.accRotZ := rfl
@[simp] theorem settings_romWrite : settings.romWrite = Params.romWrite := rfl
@[simp] theorem settings_gpuRegs : settings.gpuRegs = gpuRegs := rfl
@[simp] theorem settings_serialCtrlRead : settings.serialCtrlRead = Config.serialCtrlRead := rfl
@[simp] theorem settings_cost : settings.cost = cost := rfl

/-! ### The address decode -/

/-- The window register at an address, if `GPU_REGS` lists it (R340). -/
theorem gpuRegs_cases (a : Nat) :
    (a = 0xFF40 ∧ gpuRegs a = some .lcdc) ∨ (a = 0xFF41 ∧ gpuRegs a = some .stat) ∨
      (a = 0xFF42 ∧ gpuRegs a = some .scy) ∨ (a = 0xFF43 ∧ gpuRegs a = some .scx) ∨
      (a = 0xFF44 ∧ gpuRegs a = some .ly) ∨ (a = 0xFF47 ∧ gpuRegs a = some .bgp) ∨
      ((a ≠ 0xFF40 ∧ a ≠ 0xFF41 ∧ a ≠ 0xFF42 ∧ a ≠ 0xFF43 ∧ a ≠ 0xFF44 ∧ a ≠ 0xFF47) ∧ gpuRegs a = none) := by
  unfold gpuRegs
  split_ifs <;> simp_all

/-- What answers an address: each row of R52 and R53 with its range. -/
inductive Answers (biosMapped : Bool) (addr : Word) : Target → Prop
  | bios (h : addr.toNat ≤ 0x00FF) (mapped : biosMapped = true) : Answers biosMapped addr (.stored .bios addr.toNat)
  | rom0 (h : addr.toNat ≤ 0x3FFF) (free : ¬ (addr.toNat ≤ 0x00FF ∧ biosMapped = true)) :
      Answers biosMapped addr (.stored .rom0 addr.toNat)
  | rom1 (low : 0x4000 ≤ addr.toNat) (high : addr.toNat ≤ 0x7FFF) : Answers biosMapped addr (.stored .rom1 addr.toNat)
  | vram (low : 0x8000 ≤ addr.toNat) (high : addr.toNat ≤ 0x9FFF) : Answers biosMapped addr (.stored .vram addr.toNat)
  | eram (low : 0xA000 ≤ addr.toNat) (high : addr.toNat ≤ 0xBFFF) : Answers biosMapped addr (.stored .eram addr.toNat)
  | wram (low : 0xC000 ≤ addr.toNat) (high : addr.toNat ≤ 0xDFFF) : Answers biosMapped addr (.stored .wram addr.toNat)
  | echo (low : 0xE000 ≤ addr.toNat) (high : addr.toNat ≤ 0xFDFF) :
      Answers biosMapped addr (.stored .wram (addr.toNat - 0x2000))
  | oam (low : 0xFE00 ≤ addr.toNat) (high : addr.toNat ≤ 0xFE9F) : Answers biosMapped addr (.stored .oam addr.toNat)
  | unusable (low : 0xFEA0 ≤ addr.toNat) (high : addr.toNat ≤ 0xFEFF) : Answers biosMapped addr .unusable
  | zram (low : 0xFF80 ≤ addr.toNat) : Answers biosMapped addr (.stored .zram addr.toNat)
  | inputPort (h : addr.toNat = 0xFF00) : Answers biosMapped addr .inputPort
  | serialData (h : addr.toNat = 0xFF01) : Answers biosMapped addr .serialData
  | serialControl (h : addr.toNat = 0xFF02) : Answers biosMapped addr .serialControl
  | biosLatch (h : addr.toNat = 0xFF50) : Answers biosMapped addr .biosLatch
  | gpuReg (r : GpuReg) (h : gpuRegs addr.toNat = some r) : Answers biosMapped addr (.gpuReg r)
  | undefinedIo (h : Safety.writeFaults addr = true) : Answers biosMapped addr .undefinedIo

/-- The decode answers every address by exactly one row (R54). -/
theorem busDecode_answers (biosMapped : Bool) (addr : Word) : Answers biosMapped addr (busDecode biosMapped addr) := by
  have hlt : addr.toNat < 65536 := addr.isLt
  unfold busDecode busDecodeAt
  by_cases h0 : addr.toNat ≤ 0x00FF ∧ biosMapped = true
  · rw [if_pos h0]; exact .bios h0.1 h0.2
  rw [if_neg h0]
  by_cases h1 : addr.toNat ≤ 0x3FFF
  · rw [if_pos h1]; exact .rom0 h1 h0
  rw [if_neg h1]
  by_cases h2 : addr.toNat ≤ 0x7FFF
  · rw [if_pos h2]; exact .rom1 (by omega) (by omega)
  rw [if_neg h2]
  by_cases h3 : addr.toNat ≤ 0x9FFF
  · rw [if_pos h3]; exact .vram (by omega) (by omega)
  rw [if_neg h3]
  by_cases h4 : addr.toNat ≤ 0xBFFF
  · rw [if_pos h4]; exact .eram (by omega) (by omega)
  rw [if_neg h4]
  by_cases h5 : addr.toNat ≤ 0xDFFF
  · rw [if_pos h5]; exact .wram (by omega) (by omega)
  rw [if_neg h5]
  by_cases h6 : addr.toNat ≤ 0xFDFF
  · rw [if_pos h6]; exact .echo (by omega) (by omega)
  rw [if_neg h6]
  by_cases h7 : addr.toNat ≤ 0xFE9F
  · rw [if_pos h7]; exact .oam (by omega) (by omega)
  rw [if_neg h7]
  by_cases h8 : addr.toNat ≤ 0xFEFF
  · rw [if_pos h8]; exact .unusable (by omega) (by omega)
  rw [if_neg h8]
  by_cases h9 : addr.toNat ≥ 0xFF80
  · rw [if_pos h9]; exact .zram (by omega)
  rw [if_neg h9]
  by_cases h10 : addr.toNat = 0xFF00
  · rw [if_pos h10]; exact .inputPort h10
  rw [if_neg h10]
  by_cases h11 : addr.toNat = 0xFF01
  · rw [if_pos h11]; exact .serialData h11
  rw [if_neg h11]
  by_cases h12 : addr.toNat = 0xFF02
  · rw [if_pos h12]; exact .serialControl h12
  rw [if_neg h12]
  by_cases h13 : addr.toNat = 0xFF50
  · rw [if_pos h13]; exact .biosLatch h13
  rw [if_neg h13]
  by_cases h14 : 0xFF40 ≤ addr.toNat ∧ addr.toNat ≤ 0xFF7F
  · rw [if_pos h14]
    rcases gpuRegs_cases addr.toNat with h | h | h | h | h | h | h <;> rw [settings_gpuRegs, h.2]
    case inr.inr.inr.inr.inr.inr =>
      refine .undefinedIo ?_
      simp only [Safety.writeFaults, Safety.undefinedIoAddress, Safety.unlistedGpuAddress,
        Bool.or_eq_true, Bool.and_eq_true, decide_eq_true_eq, beq_iff_eq]
      omega
    all_goals exact .gpuReg _ h.2
  · rw [if_neg h14]
    refine .undefinedIo ?_
    simp only [Safety.writeFaults, Safety.undefinedIoAddress, Safety.unlistedGpuAddress,
      Bool.or_eq_true, Bool.and_eq_true, decide_eq_true_eq, beq_iff_eq]
    omega

/-- One row of a first-match table passed over. -/
theorem next_row {α : Type} {row : Prop} [Decidable row] {here below answer : α} (hrow : ¬ row) (h : below = answer) :
    (if row then here else below) = answer := (if_neg hrow).trans h

/-- The rows exclude each other: the row that holds of an address is the one the decode gives (R54). -/
theorem Answers.busDecode_eq {biosMapped : Bool} {addr : Word} {target : Target} (h : Answers biosMapped addr target) :
    busDecode biosMapped addr = target := by
  have hlt : addr.toNat < 65536 := addr.isLt
  unfold busDecode busDecodeAt
  cases h
  case bios h mapped => exact if_pos ⟨h, mapped⟩
  case rom0 h free => exact next_row free (if_pos h)
  case inputPort h => rw [h]; rfl
  case serialData h => rw [h]; rfl
  case serialControl h => rw [h]; rfl
  case biosLatch h => rw [h]; rfl
  case gpuReg r hr =>
    rcases gpuRegs_cases addr.toNat with h | h | h | h | h | h | h <;> rw [h.2] at hr <;> cases hr <;> rw [h.1] <;> rfl
  case undefinedIo h =>
    simp only [Safety.writeFaults, Safety.undefinedIoAddress, Safety.unlistedGpuAddress, Bool.or_eq_true,
      Bool.and_eq_true, decide_eq_true_eq, beq_iff_eq] at h
    iterate 14 refine next_row (by omega) ?_
    by_cases hw : 0xFF40 ≤ addr.toNat ∧ addr.toNat ≤ 0xFF7F
    · rw [if_pos hw]
      rcases gpuRegs_cases addr.toNat with h | h | h | h | h | h | h
      case inr.inr.inr.inr.inr.inr => rw [settings_gpuRegs, h.2]
      all_goals omega
    · rw [if_neg hw]
  all_goals
    repeat refine next_row (by omega) ?_
    exact if_pos (by omega)

/-! ### Other settings of `GPU_REGS` (R340) -/

/-- Outside the GPU window the decode does not look at `GPU_REGS`, nor at any other setting. -/
theorem busDecode_outside {biosMapped : Bool} {addr : Word} (h : ¬ Safety.inGpuWindow addr) (cfg cfg' : Settings) :
    busDecode biosMapped addr cfg = busDecode biosMapped addr cfg' := by
  unfold busDecode busDecodeAt
  iterate 13 refine ite_congr rfl (fun _ => rfl) (fun _ => ?_)
  refine ite_congr rfl (fun _ => rfl) (fun hlatch => ?_)
  have hw : ¬ (0xFF40 ≤ addr.toNat ∧ addr.toNat ≤ 0xFF7F) := fun hw =>
    h ⟨hw.1, hw.2, fun heq => hlatch (by rw [heq]; rfl)⟩
  rw [if_neg hw, if_neg hw]

/-- Inside the GPU window the decode gives what `GPU_REGS` lists. -/
theorem busDecode_window {biosMapped : Bool} {addr : Word} (h : Safety.inGpuWindow addr) (cfg : Settings) :
    busDecode biosMapped addr cfg =
      match cfg.gpuRegs addr.toNat with
      | some r => .gpuReg r
      | none => .undefinedIo := by
  obtain ⟨low, high, hlatch⟩ := h
  have hne : addr.toNat ≠ 0xFF50 := fun heq => hlatch (BitVec.eq_of_toNat_eq heq)
  unfold busDecode busDecodeAt
  iterate 14 refine next_row (by omega) ?_
  refine (if_pos ⟨low, high⟩).trans ?_
  cases cfg.gpuRegs addr.toNat <;> rfl

/-- A listed address of the window reads its register and writes it (R340). -/
theorem bus_window_listed {cfg : Settings} {s : State} {addr : Word} {r : GpuReg} (h : Safety.inGpuWindow addr)
    (hr : cfg.gpuRegs addr.toNat = some r) (v : Byte) :
    memRead s addr cfg = .ok (s.gpu.readReg r) ∧
      memWrite s addr v cfg = .ok { s with gpu := s.gpu.writeReg r v } := by
  simp only [memRead, memWrite, busDecode_window h, hr, and_self]

/-- An address of the window that is not listed raises on read and on write (R72, R340). -/
theorem bus_window_unlisted {cfg : Settings} {s : State} {addr : Word} (h : Safety.inGpuWindow addr)
    (hr : cfg.gpuRegs addr.toNat = none) (v : Byte) :
    memRead s addr cfg = .error (.memoryAccess addr none) ∧
      memWrite s addr v cfg = .error (.memoryAccess addr none) := by
  simp only [memRead, memWrite, busDecode_window h, hr, and_self]

/-! ### The bounds check -/

/-- The bounds check of R73. -/
theorem Region.holds_iff (r : Region) (a : Nat) : r.holds a = true ↔ r.base ≤ a ∧ a - r.base < r.length := by
  simp [Region.holds]

/-- The bounds check of R73 never fires: the decode gives addresses inside their region. -/
theorem busDecode_holds {biosMapped : Bool} {addr : Word} {r : Region} {a : Nat}
    (h : busDecode biosMapped addr = .stored r a) : r.holds a = true := by
  have hlt : addr.toNat < 65536 := addr.isLt
  have hans := busDecode_answers biosMapped addr
  rw [h] at hans
  rw [Region.holds_iff]
  cases hans <;> simp only [Region.base, Region.length] <;> omega

/-! ### Reads -/

/-- Everything a bus read can give (R52). -/
theorem memRead_cases (s : State) (addr : Word) :
    (∃ r a, busDecode s.biosMapped addr = .stored r a ∧ memRead s addr = .ok (Memory.read (s.regionMem r) a)) ∨
      (busDecode s.biosMapped addr = .unusable ∧ memRead s addr = .ok 0) ∨
      (busDecode s.biosMapped addr = .inputPort ∧ memRead s addr = .ok 0) ∨
      (busDecode s.biosMapped addr = .serialControl ∧ memRead s addr = .ok Config.serialCtrlRead) ∨
      (∃ r, busDecode s.biosMapped addr = .gpuReg r ∧ memRead s addr = .ok (s.gpu.readReg r)) ∨
      ((busDecode s.biosMapped addr = .serialData ∨ busDecode s.biosMapped addr = .biosLatch ∨
        busDecode s.biosMapped addr = .undefinedIo) ∧ memRead s addr = .error (.memoryAccess addr none)) := by
  cases hdec : busDecode s.biosMapped addr <;> rw [memRead, hdec]
  case stored r a =>
    dsimp only
    rw [if_pos (busDecode_holds hdec)]
    exact .inl ⟨r, a, rfl, rfl⟩
  all_goals simp

/-- A bus read that raises, raises `MemoryAccess` for its address (R372). -/
theorem memRead_error {s : State} {addr : Word} {record : FaultRecord} (h : memRead s addr = .error record) :
    record = .memoryAccess addr none := by
  rcases memRead_cases s addr with ⟨_, _, _, h'⟩ | ⟨_, h'⟩ | ⟨_, h'⟩ | ⟨_, h'⟩ | ⟨_, _, h'⟩ | ⟨_, h'⟩ <;>
    rw [h] at h' <;> simp_all

/-- A read that a stored byte answers gives that byte (R52). -/
theorem memRead_stored {s : State} {addr : Word} {r : Region} {a : Nat} (h : Answers s.biosMapped addr (.stored r a)) :
    memRead s addr = .ok (Memory.read (s.regionMem r) a) := by
  unfold memRead
  rw [h.busDecode_eq]
  dsimp only
  rw [if_pos (busDecode_holds h.busDecode_eq)]

/-- A read that a GPU register answers gives its value (R340). -/
theorem memRead_gpuReg {s : State} {addr : Word} {r : GpuReg} (h : gpuRegs addr.toNat = some r) :
    memRead s addr = .ok (s.gpu.readReg r) := by
  unfold memRead
  rw [(Answers.gpuReg r h : Answers s.biosMapped addr _).busDecode_eq]

/-! ### Writes -/

/-- A write that a byte of a writable region answers stores it (R53). -/
theorem memWrite_stored {s : State} {addr : Word} {v : Byte} {r : Region} {a : Nat}
    (h : Answers s.biosMapped addr (.stored r a)) (hr : r.readOnly = false) :
    memWrite s addr v = .ok { s with mem := Memory.write s.mem a v } := by
  unfold memWrite
  rw [h.busDecode_eq]
  dsimp only
  rw [hr, if_neg (by simp), if_pos (busDecode_holds h.busDecode_eq)]
  cases r <;> first | rfl | cases hr

/-- A write that a read-only region answers is dropped (R60). -/
theorem memWrite_readOnly {s : State} {addr : Word} {v : Byte} {r : Region} {a : Nat}
    (h : Answers s.biosMapped addr (.stored r a)) (hr : r.readOnly = true) : memWrite s addr v = .ok s := by
  unfold memWrite
  rw [h.busDecode_eq]
  dsimp only
  rw [if_pos hr]
  rfl

/-- A write to a GPU register (R340). -/
theorem memWrite_gpuReg {s : State} {addr : Word} {v : Byte} {r : GpuReg} (h : gpuRegs addr.toNat = some r) :
    memWrite s addr v = .ok { s with gpu := s.gpu.writeReg r v } := by
  unfold memWrite
  rw [(Answers.gpuReg r h : Answers s.biosMapped addr _).busDecode_eq]

/-- Everything a bus write can do (R53), with `ROM_WRITE = drop`. -/
theorem memWrite_cases (s : State) (addr : Word) (v : Byte) :
    (∃ r a, busDecode s.biosMapped addr = .stored r a ∧ r.readOnly = true ∧ memWrite s addr v = .ok s) ∨
      (∃ r a, busDecode s.biosMapped addr = .stored r a ∧ r.readOnly = false ∧
        memWrite s addr v = .ok { s with mem := Memory.write s.mem a v }) ∨
      ((busDecode s.biosMapped addr = .unusable ∨ busDecode s.biosMapped addr = .inputPort ∨
        busDecode s.biosMapped addr = .serialControl) ∧ memWrite s addr v = .ok s) ∨
      (busDecode s.biosMapped addr = .serialData ∧ memWrite s addr v = .ok { s with serialOut := s.serialOut ++ [v] }) ∨
      (busDecode s.biosMapped addr = .biosLatch ∧
        memWrite s addr v = .ok (if v = 0x01 then { s with biosMapped := false } else s)) ∨
      (∃ r, busDecode s.biosMapped addr = .gpuReg r ∧
        memWrite s addr v = .ok { s with gpu := s.gpu.writeReg r v }) ∨
      (busDecode s.biosMapped addr = .undefinedIo ∧ memWrite s addr v = .error (.memoryAccess addr none)) := by
  unfold memWrite
  cases hdec : busDecode s.biosMapped addr <;> simp [Params.romWrite]
  case stored r a =>
    cases hr : r.readOnly <;> simp [busDecode_holds hdec]
    cases r <;> simp_all [Region.readOnly, State.setRegionByte]
  case biosLatch => split <;> rfl

/-- A bus write that raises, raises `MemoryAccess` for its address (R372). -/
theorem memWrite_error {s : State} {addr : Word} {v : Byte} {record : FaultRecord}
    (h : memWrite s addr v = .error record) : record = .memoryAccess addr none := by
  rcases memWrite_cases s addr v with ⟨_, _, _, _, h'⟩ | ⟨_, _, _, _, h'⟩ | ⟨_, h'⟩ | ⟨_, h'⟩ | ⟨_, h'⟩ | ⟨_, _, h'⟩ |
    ⟨_, h'⟩ <;> rw [h] at h' <;> simp_all

/-- The address of a byte a writable region stores is at or above 0x8000: no write reaches ROM (R60). -/
theorem busDecode_writable {biosMapped : Bool} {addr : Word} {r : Region} {a : Nat}
    (h : busDecode biosMapped addr = .stored r a) (hr : r.readOnly = false) : 0x8000 ≤ a := by
  have hans := busDecode_answers biosMapped addr
  rw [h] at hans
  cases hans <;> simp_all [Region.readOnly] <;> omega

/-- What a bus access leaves of a state: everything but the stored bytes at or above 0x8000, the serial output, the
overlay bit, and the four writable GPU registers. -/
structure BusFrame (s t : State) : Prop where
  reg : ∀ r, t.reg r = s.reg r
  f : t.f = s.f
  sp : t.sp = s.sp
  pc : t.pc = s.pc
  ime : t.ime = s.ime
  halted : t.halted = s.halted
  fault : t.fault = s.fault
  mClock : t.mClock = s.mClock
  tClock : t.tClock = s.tClock
  notTaken : t.notTaken = s.notTaken
  bios : t.bios = s.bios
  rom : ∀ a < 0x8000, Memory.read t.mem a = Memory.read s.mem a
  memWf : Memory.wf s.mem = true → Memory.wf t.mem = true
  serial : s.serialOut <+: t.serialOut
  overlay : s.biosMapped = false → t.biosMapped = false
  mode : t.gpu.mode = s.gpu.mode
  line : t.gpu.line = s.gpu.line
  modeClock : t.gpu.modeClock = s.gpu.modeClock
  frameBuffer : t.gpu.frameBuffer = s.gpu.frameBuffer
  frameCount : t.gpu.frameCount = s.gpu.frameCount

theorem BusFrame.refl (s : State) : BusFrame s s := by
  constructor <;> simp

theorem memWrite_frame {s t : State} {addr : Word} {v : Byte} (h : memWrite s addr v = .ok t) : BusFrame s t := by
  rcases memWrite_cases s addr v with ⟨r, a, _, _, h'⟩ | ⟨r, a, hd, hr, h'⟩ | ⟨_, h'⟩ | ⟨_, h'⟩ | ⟨_, h'⟩ | ⟨r, _, h'⟩ |
    ⟨_, h'⟩ <;> rw [h] at h'
  · cases h'; exact BusFrame.refl _
  · cases h'
    have hge := busDecode_writable hd hr
    refine ⟨fun r' => by cases r' <;> rfl, rfl, rfl, rfl, rfl, rfl, rfl, rfl, rfl, rfl, rfl, ?_, ?_, List.prefix_refl _, id,
      rfl, rfl, rfl, rfl, rfl⟩
    · intro b hb
      exact Memory.read_write_other _ _ _ _ (by omega)
    · exact Memory.wf_write a v
  · cases h'; exact BusFrame.refl _
  · cases h'
    exact ⟨fun r' => by cases r' <;> rfl, rfl, rfl, rfl, rfl, rfl, rfl, rfl, rfl, rfl, rfl, fun _ _ => rfl, id,
      List.prefix_append _ _, id, rfl, rfl, rfl, rfl, rfl⟩
  · split at h' <;> cases h'
    · exact ⟨fun r' => by cases r' <;> rfl, rfl, rfl, rfl, rfl, rfl, rfl, rfl, rfl, rfl, rfl, fun _ _ => rfl, id,
        List.prefix_refl _, fun _ => rfl, rfl, rfl, rfl, rfl, rfl⟩
    · exact BusFrame.refl _
  · cases h'
    refine ⟨fun r' => by cases r' <;> rfl, rfl, rfl, rfl, rfl, rfl, rfl, rfl, rfl, rfl, rfl, fun _ _ => rfl, id,
      List.prefix_refl _, id, ?_, ?_, ?_, ?_, ?_⟩ <;> cases r <;> rfl
  · cases h'

end Sys2Proof.Machine
end

