-- ==== Sys2Proof/Laws/Ops.lean ====
section
/-! SUPPORT. One lemma per shared operation: everything it can do when it answers, and its equation where an access succeeds
or raises. Cited instead of unfolding the operation. -/

namespace Sys2Proof.Machine

open Sys2Proof

/-! ### Parts of a step -/

/-- One part after another answers only where both answer. -/
theorem Res.andThen_ok {α β : Type} {r : Res α} {f : α → State → Res β} {b : β} {t : State} :
    r.andThen f = .ok b t ↔ ∃ a u, r = .ok a u ∧ f a u = .ok b t := by
  cases r <;> simp [Res.andThen]

/-- One part after another raises where the first that raises does. -/
theorem Res.andThen_raised {α β : Type} {r : Res α} {f : α → State → Res β} {record : FaultRecord} {t : State} :
    r.andThen f = .raised record t ↔ r = .raised record t ∨ ∃ a u, r = .ok a u ∧ f a u = .raised record t := by
  cases r <;> simp [Res.andThen]

@[simp] theorem Res.ok_andThen {α β : Type} (a : α) (s : State) (f : α → State → Res β) :
    (Res.ok a s).andThen f = f a s := rfl

@[simp] theorem Res.raised_andThen {α β : Type} (record : FaultRecord) (s : State) (f : α → State → Res β) :
    (Res.raised record s).andThen f = .raised record s := rfl

@[simp] theorem raise_andThen {α β : Type} (record : FaultRecord) (s : State) (f : α → State → Res β) :
    (raise record s).andThen f = raise record s := rfl

@[simp] theorem done_eq (s : State) : done s = .ok () s := rfl

@[simp] theorem Res.ok_outcome (s : State) : (Res.ok () s).outcome = .next s := rfl

@[simp] theorem raise_outcome (record : FaultRecord) (s : State) :
    (raise record s).outcome = .fault (.raised record { s with fault := some record }) := rfl

/-- A raise never answers. -/
theorem raise_ne_ok {α : Type} {record : FaultRecord} {s t : State} {a : α} : raise record s ≠ .ok a t := by
  simp [raise]

/-- The effect is a next state only where the last part answers. -/
theorem Res.outcome_next {r : Res Unit} {t : State} : r.outcome = .next t ↔ r = .ok () t := by
  cases r <;> simp [Res.outcome]

/-- The effect is a fault only where a part raises. -/
theorem Res.outcome_fault {r : Res Unit} {q : Fault} :
    r.outcome = .fault q ↔ ∃ record left, r = .raised record left ∧ q = .raised record left := by
  cases r <;> simp [Res.outcome, eq_comm]

/-- An effect is never a refusal. -/
theorem Res.outcome_ne_refused {r : Res Unit} {q : Refusal} : r.outcome ≠ .refused q := by
  cases r <;> simp [Res.outcome]

/-! ### One byte over the bus -/

theorem readByte_ok {cfg : Settings} {addr : Word} {s t : State} {v : Byte} :
    readByte addr s cfg = .ok v t ↔ memRead s addr cfg = .ok v ∧ t = s := by
  unfold readByte
  cases h : memRead s addr cfg <;> simp [raise, eq_comm]

theorem readByte_of_ok {cfg : Settings} {addr : Word} {s : State} {v : Byte} (h : memRead s addr cfg = .ok v) :
    readByte addr s cfg = .ok v s := readByte_ok.mpr ⟨h, rfl⟩

theorem readByte_of_error {cfg : Settings} {addr : Word} {s : State} {record : FaultRecord} (h : memRead s addr cfg = .error record) :
    readByte addr s cfg = raise record s := by
  unfold readByte
  rw [h]

theorem writeByte_ok {cfg : Settings} {addr : Word} {v : Byte} {s t : State} {x : Unit} :
    writeByte addr v s cfg = .ok x t ↔ memWrite s addr v cfg = .ok t := by
  unfold writeByte
  cases h : memWrite s addr v cfg <;> simp [raise, done]

theorem writeByte_of_ok {cfg : Settings} {addr : Word} {v : Byte} {s t : State} (h : memWrite s addr v cfg = .ok t) :
    writeByte addr v s cfg = .ok () t := writeByte_ok.mpr h

theorem writeByte_of_error {cfg : Settings} {addr : Word} {v : Byte} {s : State} {record : FaultRecord}
    (h : memWrite s addr v cfg = .error record) : writeByte addr v s cfg = raise record s := by
  unfold writeByte
  rw [h]

/-! ### When an access answers -/

/-- The addresses of R372 (a) and (c), as ranges. -/
theorem writeFaults_iff (addr : Word) : Safety.writeFaults addr = true ↔
    (0xFF03 ≤ addr.toNat ∧ addr.toNat ≤ 0xFF3F) ∨ addr.toNat = 0xFF45 ∨ addr.toNat = 0xFF46 ∨
      (0xFF48 ≤ addr.toNat ∧ addr.toNat ≤ 0xFF4F) ∨ (0xFF51 ≤ addr.toNat ∧ addr.toNat ≤ 0xFF7F) := by
  simp only [Safety.writeFaults, Safety.undefinedIoAddress, Safety.unlistedGpuAddress, Bool.or_eq_true,
    Bool.and_eq_true, decide_eq_true_eq, beq_iff_eq, or_assoc]

/-- The addresses of R372 (a), (b) and (c), as ranges. -/
theorem readFaults_iff (addr : Word) : Safety.readFaults addr = true ↔
    Safety.writeFaults addr = true ∨ addr.toNat = 0xFF01 ∨ addr.toNat = 0xFF50 := by
  have hword : ∀ n < 65536, (addr == BitVec.ofNat 16 n) = true ↔ addr.toNat = n := by
    intro n hn
    rw [beq_iff_eq, ← BitVec.toNat_inj, BitVec.toNat_ofNat, Nat.mod_eq_of_lt hn]
  rw [← hword 0xFF01 (by decide), ← hword 0xFF50 (by decide)]
  simp only [Safety.readFaults, Safety.writeFaults, Bool.or_eq_true, or_assoc]
  exact Iff.rfl

/-- The targets that answer no write are exactly those of R372. -/
theorem Answers.writeFaults_iff {biosMapped : Bool} {addr : Word} {target : Target}
    (h : Answers biosMapped addr target) : Safety.writeFaults addr = true ↔ target = .undefinedIo := by
  rw [Machine.writeFaults_iff]
  cases h
  case gpuReg r hr =>
    rcases gpuRegs_cases addr.toNat with h | h | h | h | h | h | h <;> rw [h.2] at hr <;> simp [h.1] at hr ⊢
  case undefinedIo h => simpa [Machine.writeFaults_iff] using h
  all_goals simp only [reduceCtorEq, iff_false]; omega

/-- The targets that answer no read are exactly those of R372. -/
theorem Answers.readFaults_iff {biosMapped : Bool} {addr : Word} {target : Target}
    (h : Answers biosMapped addr target) : Safety.readFaults addr = true ↔
      (target = .serialData ∨ target = .biosLatch ∨ target = .undefinedIo) := by
  rw [Machine.readFaults_iff, h.writeFaults_iff]
  cases h
  case gpuReg r hr =>
    rcases gpuRegs_cases addr.toNat with h | h | h | h | h | h | h <;> rw [h.2] at hr <;> simp [h.1] at hr ⊢
  all_goals simp only [reduceCtorEq, false_or, or_false, true_or, or_true, iff_true, iff_false]
  all_goals omega

/-- A read answers but at the addresses of R372, where it raises. -/
theorem memRead_answers (s : State) (addr : Word) :
    (Safety.readFaults addr = false ∧ ∃ v, memRead s addr = .ok v) ∨
      (Safety.readFaults addr = true ∧ memRead s addr = .error (.memoryAccess addr none)) := by
  have hiff := (busDecode_answers s.biosMapped addr).readFaults_iff
  rw [← Bool.not_eq_true, hiff]
  rcases memRead_cases s addr with ⟨r, a, hd, h⟩ | ⟨hd, h⟩ | ⟨hd, h⟩ | ⟨hd, h⟩ | ⟨r, hd, h⟩ | ⟨hd, h⟩
  case inr.inr.inr.inr.inr => exact .inr ⟨hd, h⟩
  all_goals exact .inl ⟨by rw [hd]; simp, _, h⟩

theorem memRead_ok_of {s : State} {addr : Word} (h : Safety.readFaults addr = false) : ∃ v, memRead s addr = .ok v := by
  rcases memRead_answers s addr with ⟨_, h'⟩ | ⟨h', _⟩
  · exact h'
  · simp [h] at h'

theorem memRead_error_of {s : State} {addr : Word} (h : Safety.readFaults addr = true) :
    memRead s addr = .error (.memoryAccess addr none) := by
  rcases memRead_answers s addr with ⟨h', _⟩ | ⟨_, h'⟩
  · simp [h] at h'
  · exact h'

/-- A write answers but at the addresses of R372, where it raises. -/
theorem memWrite_answers (s : State) (addr : Word) (v : Byte) :
    (Safety.writeFaults addr = false ∧ ∃ t, memWrite s addr v = .ok t) ∨
      (Safety.writeFaults addr = true ∧ memWrite s addr v = .error (.memoryAccess addr none)) := by
  have hiff := (busDecode_answers s.biosMapped addr).writeFaults_iff
  rw [← Bool.not_eq_true, hiff]
  rcases memWrite_cases s addr v with ⟨r, a, hd, _, h⟩ | ⟨r, a, hd, _, h⟩ | ⟨hd, h⟩ | ⟨hd, h⟩ | ⟨hd, h⟩ | ⟨r, hd, h⟩ |
    ⟨hd, h⟩
  case inr.inr.inr.inr.inr.inr => exact .inr ⟨hd, h⟩
  case inr.inr.inl => exact .inl ⟨by rcases hd with hd | hd | hd <;> rw [hd] <;> simp, _, h⟩
  all_goals exact .inl ⟨by rw [hd]; simp, _, h⟩

theorem memWrite_ok_of {s : State} {addr : Word} {v : Byte} (h : Safety.writeFaults addr = false) :
    ∃ t, memWrite s addr v = .ok t := by
  rcases memWrite_answers s addr v with ⟨_, h'⟩ | ⟨h', _⟩
  · exact h'
  · simp [h] at h'

theorem memWrite_error_of {s : State} {addr : Word} {v : Byte} (h : Safety.writeFaults addr = true) :
    memWrite s addr v = .error (.memoryAccess addr none) := by
  rcases memWrite_answers s addr v with ⟨h', _⟩ | ⟨_, h'⟩
  · simp [h] at h'
  · exact h'

/-- An address that answers a read answers a write, so the store of a read-modify-write never raises. -/
theorem writeFaults_of_readFaults {addr : Word} (h : Safety.readFaults addr = false) :
    Safety.writeFaults addr = false := by
  rw [← Bool.not_eq_true] at h ⊢
  exact fun hw => h ((readFaults_iff addr).mpr (.inl hw))

end Sys2Proof.Machine
end

