-- ==== Sys2Proof/Laws/Effects.lean ====
section
/-! SUPPORT. What the operations shared by the instructions can do: for each, the parts a next state was made of, and what no
effect touches. -/

namespace Sys2Proof.Machine

open Sys2Proof

/-! ### Reading instruction bytes and the stack -/

/-- `Fetch8` answers the byte at PC and moves PC past it (R24). -/
theorem fetch8_ok {cfg : Settings} {s t : State} {v : Byte} :
    fetch8 s cfg = .ok v t ↔ memRead s s.pc cfg = .ok v ∧ t = { s with pc := s.pc + 1 } := by
  simp only [fetch8, Res.andThen_ok, readByte_ok]
  constructor
  · rintro ⟨_, _, ⟨h, rfl⟩, h'⟩
    simp only [Res.ok.injEq] at h'
    exact ⟨h'.1 ▸ h, h'.2.symm⟩
  · rintro ⟨h, rfl⟩
    exact ⟨v, s, ⟨h, rfl⟩, rfl⟩

theorem fetch8_of_ok {cfg : Settings} {s : State} {v : Byte} (h : memRead s s.pc cfg = .ok v) :
    fetch8 s cfg = .ok v { s with pc := s.pc + 1 } := fetch8_ok.mpr ⟨h, rfl⟩

theorem fetch8_of_error {cfg : Settings} {s : State} {record : FaultRecord} (h : memRead s s.pc cfg = .error record) :
    fetch8 s cfg = raise record s := by
  rw [fetch8, readByte_of_error h, raise_andThen]

/-- `Push16` answers when both stores do: the high byte at SP - 1, the low byte at SP - 2 (R197). -/
theorem push16_ok {w : Word} {s t : State} :
    push16 w s = .ok () t ↔ ∃ u, memWrite { s with sp := s.sp - 1 } (s.sp - 1) (hi w) = .ok u ∧
      memWrite { u with sp := u.sp - 1 } (u.sp - 1) (lo w) = .ok t := by
  simp only [push16, Res.andThen_ok, writeByte_ok]
  constructor
  · rintro ⟨⟨⟩, u, h, h'⟩
    exact ⟨u, h, h'⟩
  · rintro ⟨u, h, h'⟩
    exact ⟨(), u, h, h'⟩

/-- `Pop16` answers when both loads do: the low byte at SP, the high byte at SP + 1 (R198). -/
theorem pop16_ok {s t : State} {w : Word} :
    pop16 s = .ok w t ↔ ∃ low high, memRead s s.sp = .ok low ∧ memRead s (s.sp + 1) = .ok high ∧
      w = word high low ∧ t = { s with sp := s.sp + 1 + 1 } := by
  simp only [pop16, Res.andThen_ok, readByte_ok]
  constructor
  · rintro ⟨low, _, ⟨h, rfl⟩, high, _, ⟨h', rfl⟩, h''⟩
    simp only [Res.ok.injEq] at h''
    exact ⟨low, high, h, h', h''.1.symm, h''.2.symm⟩
  · rintro ⟨low, high, h, h', rfl, rfl⟩
    exact ⟨low, s, ⟨h, rfl⟩, high, _, ⟨h', rfl⟩, rfl⟩

/-! ### Operand forms -/

/-- A source operand in memory: the byte read decides the update (R164, R238). -/
theorem fromMem_next {update : Byte → State → State} {addr : Word} {s t : State} :
    fromMem update addr s = .next t ↔ ∃ v, memRead s addr = .ok v ∧ t = update v s := by
  simp only [fromMem, Res.outcome_next, Res.andThen_ok, readByte_ok]
  constructor
  · rintro ⟨v, _, ⟨h, rfl⟩, h'⟩
    simp only [done_eq, Res.ok.injEq, true_and] at h'
    exact ⟨v, h, h'.symm⟩
  · rintro ⟨v, h, rfl⟩
    exact ⟨v, s, ⟨h, rfl⟩, rfl⟩

theorem fromMem_of_ok {update : Byte → State → State} {addr : Word} {s : State} {v : Byte}
    (h : memRead s addr = .ok v) : fromMem update addr s = .next (update v s) := fromMem_next.mpr ⟨v, h, rfl⟩

theorem fromMem_of_error {update : Byte → State → State} {addr : Word} {s : State} {record : FaultRecord}
    (h : memRead s addr = .error record) :
    fromMem update addr s = .fault (.raised record { s with fault := some record }) := by
  rw [fromMem, readByte_of_error h, raise_andThen, raise_outcome]

/-- A read-modify-write of the byte at HL: the read, then the store at the HL of the changed state (R77, R235, R312). -/
theorem modifyAtHl_next {change : Byte → State → Byte × State} {s t : State} :
    modifyAtHl change s = .next t ↔
      ∃ v, memRead s s.hl = .ok v ∧ memWrite (change v s).2 (change v s).2.hl (change v s).1 = .ok t := by
  simp only [modifyAtHl, Res.outcome_next, Res.andThen_ok, readByte_ok, writeByte_ok]
  constructor
  · rintro ⟨v, _, ⟨h, rfl⟩, h'⟩
    exact ⟨v, h, h'⟩
  · rintro ⟨v, h, h'⟩
    exact ⟨v, s, ⟨h, rfl⟩, h'⟩

theorem modifyAtHl_of_error {change : Byte → State → Byte × State} {s : State} {record : FaultRecord}
    (h : memRead s s.hl = .error record) :
    modifyAtHl change s = .fault (.raised record { s with fault := some record }) := by
  rw [modifyAtHl, readByte_of_error h, raise_andThen, raise_outcome]

/-- A store of one byte. -/
theorem storeMem_next {addr : Word} {v : Byte} {s t : State} :
    storeMem addr v s = .next t ↔ memWrite s addr v = .ok t := by
  simp only [storeMem, Res.outcome_next, writeByte_ok]

theorem storeMem_of_error {addr : Word} {v : Byte} {s : State} {record : FaultRecord}
    (h : memWrite s addr v = .error record) :
    storeMem addr v s = .fault (.raised record { s with fault := some record }) := by
  rw [storeMem, writeByte_of_error h, raise_outcome]

/-- The store forms that move HL (R178, R179). -/
theorem storeThenHl_next {delta : Word} {s t : State} :
    storeThenHl delta s = .next t ↔ ∃ u, memWrite s s.hl s.a = .ok u ∧ t = u.setHl (u.hl + delta) := by
  simp only [storeThenHl, Res.outcome_next, Res.andThen_ok, writeByte_ok]
  constructor
  · rintro ⟨⟨⟩, u, h, h'⟩
    simp only [done_eq, Res.ok.injEq, true_and] at h'
    exact ⟨u, h, h'.symm⟩
  · rintro ⟨u, h, rfl⟩
    exact ⟨(), u, h, rfl⟩

/-- The load forms that move HL (R180, R181). -/
theorem loadThenHl_next {delta : Word} {s t : State} :
    loadThenHl delta s = .next t ↔
      ∃ v, memRead s s.hl = .ok v ∧ t = (s.setReg .a v).setHl ((s.setReg .a v).hl + delta) := by
  simp only [loadThenHl, Res.outcome_next, Res.andThen_ok, readByte_ok]
  constructor
  · rintro ⟨v, _, ⟨h, rfl⟩, h'⟩
    simp only [done_eq, Res.ok.injEq, true_and] at h'
    exact ⟨v, h, h'.symm⟩
  · rintro ⟨v, h, rfl⟩
    exact ⟨v, s, ⟨h, rfl⟩, rfl⟩

/-- `LD (nn),SP`: the low byte at `nn`, then the high byte at `nn + 1` (R191). -/
theorem storeSp_next {nn : Word} {s t : State} :
    storeSp nn s = .next t ↔
      ∃ u, memWrite s nn (lo s.sp) = .ok u ∧ memWrite u (nn + 1) (hi u.sp) = .ok t := by
  simp only [storeSp, Res.outcome_next, Res.andThen_ok, writeByte_ok]
  constructor
  · rintro ⟨⟨⟩, u, h, h'⟩
    exact ⟨u, h, h'⟩
  · rintro ⟨u, h, h'⟩
    exact ⟨(), u, h, h'⟩

/-- `POP` (R195, R196). -/
theorem popInto_next {p : StackPair} {s t : State} :
    popInto p s = .next t ↔ ∃ w u, pop16 s = .ok w u ∧ t = u.setStackPair p w := by
  simp only [popInto, Res.outcome_next, Res.andThen_ok, done_eq, Res.ok.injEq, true_and]
  exact ⟨fun ⟨w, u, h, h'⟩ => ⟨w, u, h, h'.symm⟩, fun ⟨w, u, h, h'⟩ => ⟨w, u, h, h'.symm⟩⟩

/-- A call pushes PC and goes to its target (R275, R281). -/
theorem call_ok {target : Word} {s t : State} :
    call target s = .ok () t ↔ ∃ u, push16 s.pc s = .ok () u ∧ t = { u with pc := target } := by
  simp only [call, Res.andThen_ok]
  constructor
  · rintro ⟨⟨⟩, u, h, h'⟩
    simp only [done_eq, Res.ok.injEq, true_and] at h'
    exact ⟨u, h, h'.symm⟩
  · rintro ⟨u, h, rfl⟩
    exact ⟨(), u, h, rfl⟩

/-- A return goes to the popped address (R278). -/
theorem ret_ok {s t : State} : ret s = .ok () t ↔ ∃ w u, pop16 s = .ok w u ∧ t = { u with pc := w } := by
  simp only [ret, Res.andThen_ok, done_eq, Res.ok.injEq, true_and]
  exact ⟨fun ⟨w, u, h, h'⟩ => ⟨w, u, h, h'.symm⟩, fun ⟨w, u, h, h'⟩ => ⟨w, u, h, h'.symm⟩⟩

/-- A conditional transfer is its transfer, or sets `notTaken` and nothing else (R277). -/
theorem ifCond_next {cc : Cond} {taken : State → Res Unit} {s t : State} :
    ifCond cc taken s = .next t ↔ (condHolds cc s = true ∧ taken s = .ok () t) ∨
      (condHolds cc s = false ∧ t = { s with notTaken := true }) := by
  unfold ifCond
  cases condHolds cc s
  · simp [eq_comm]
  · simp [Res.outcome_next]

/-! ### What no effect touches -/

/-- What an instruction's effect leaves of a state, whatever the instruction: the clocks, the fault record, the images, the
GPU's position and frame; the canonical form and the low nibble of F stay as they should; the serial output only grows
and the overlay never comes back (R26, R60, R69, R125). -/
structure EffectFrame (s t : State) : Prop where
  fault : t.fault = s.fault
  mClock : t.mClock = s.mClock
  tClock : t.tClock = s.tClock
  bios : t.bios = s.bios
  rom : ∀ a < 0x8000, Memory.read t.mem a = Memory.read s.mem a
  memWf : Memory.wf s.mem = true → Memory.wf t.mem = true
  serial : s.serialOut <+: t.serialOut
  overlay : s.biosMapped = false → t.biosMapped = false
  mode : t.gpu.mode = s.gpu.mode
  line : t.gpu.line = s.gpu.line
  modeClock : t.gpu.modeClock = s.gpu.modeClock
  frameBuffer : t.gpu.frameBuffer = s.gpu.frameBuffer
  frameCount : t.gpu.frameCount = s.gpu.frameCount
  lowNibble : s.f &&& 0x0F = 0 → t.f &&& 0x0F = 0

theorem EffectFrame.refl (s : State) : EffectFrame s s := by
  constructor <;> simp

theorem EffectFrame.trans {s t u : State} (h : EffectFrame s t) (h' : EffectFrame t u) : EffectFrame s u where
  fault := h'.fault.trans h.fault
  mClock := h'.mClock.trans h.mClock
  tClock := h'.tClock.trans h.tClock
  bios := h'.bios.trans h.bios
  rom a ha := (h'.rom a ha).trans (h.rom a ha)
  memWf hm := h'.memWf (h.memWf hm)
  serial := h.serial.trans h'.serial
  overlay ho := h'.overlay (h.overlay ho)
  mode := h'.mode.trans h.mode
  line := h'.line.trans h.line
  modeClock := h'.modeClock.trans h.modeClock
  frameBuffer := h'.frameBuffer.trans h.frameBuffer
  frameCount := h'.frameCount.trans h.frameCount
  lowNibble hf := h'.lowNibble (h.lowNibble hf)

/-- A bus access is inside the frame. -/
theorem BusFrame.effect {s t : State} (h : BusFrame s t) : EffectFrame s t where
  fault := h.fault
  mClock := h.mClock
  tClock := h.tClock
  bios := h.bios
  rom := h.rom
  memWf := h.memWf
  serial := h.serial
  overlay := h.overlay
  mode := h.mode
  line := h.line
  modeClock := h.modeClock
  frameBuffer := h.frameBuffer
  frameCount := h.frameCount
  lowNibble hf := by rw [h.f]; exact hf

theorem memWrite_effect {s t : State} {addr : Word} {v : Byte} (h : memWrite s addr v = .ok t) : EffectFrame s t :=
  (memWrite_frame h).effect

/-- A change of CPU registers other than F is inside the frame. -/
theorem EffectFrame.of_eq {s t : State} (hf : t.f = s.f) (hfault : t.fault = s.fault) (hm : t.mClock = s.mClock)
    (ht : t.tClock = s.tClock) (hbios : t.bios = s.bios) (hmem : t.mem = s.mem) (hserial : t.serialOut = s.serialOut)
    (hmap : t.biosMapped = s.biosMapped) (hgpu : t.gpu = s.gpu) : EffectFrame s t := by
  constructor <;> simp_all

theorem EffectFrame.setReg (s : State) (r : Reg8) (v : Byte) : EffectFrame s (s.setReg r v) := by
  apply EffectFrame.of_eq <;> simp

theorem EffectFrame.setHl (s : State) (w : Word) : EffectFrame s (s.setHl w) := by
  apply EffectFrame.of_eq <;> rfl

theorem EffectFrame.setPair (s : State) (p : Pair) (w : Word) : EffectFrame s (s.setPair p w) := by
  cases p <;> apply EffectFrame.of_eq <;> rfl

/-- The write of AF keeps the low nibble of F at 0 (R196). -/
theorem EffectFrame.setStackPair (s : State) (p : StackPair) (w : Word) : EffectFrame s (s.setStackPair p w) := by
  cases p
  case af =>
    have hlow : lo w &&& 0xF0 &&& 0x0F = (0 : Byte) := by
      rw [BitVec.and_assoc, show (0xF0 : Byte) &&& 0x0F = 0#8 from rfl, BitVec.and_zero]
      rfl
    exact ⟨rfl, rfl, rfl, rfl, fun _ _ => rfl, id, List.prefix_refl _, id, rfl, rfl, rfl, rfl, rfl, fun _ => hlow⟩
  all_goals apply EffectFrame.of_eq <;> rfl

theorem EffectFrame.setFlags (s : State) (z n h c : Option Bool) : EffectFrame s (s.setFlags z n h c) :=
  ⟨rfl, rfl, rfl, rfl, fun _ _ => rfl, id, List.prefix_refl _, id, rfl, rfl, rfl, rfl, rfl,
    fun hf => by rw [State.setFlags_low]; exact hf⟩

theorem push16_effect {w : Word} {s t : State} (h : push16 w s = .ok () t) : EffectFrame s t := by
  obtain ⟨u, hu, ht⟩ := push16_ok.mp h
  have h1 : EffectFrame s { s with sp := s.sp - 1 } := by apply EffectFrame.of_eq <;> rfl
  have h2 : EffectFrame u { u with sp := u.sp - 1 } := by apply EffectFrame.of_eq <;> rfl
  exact ((h1.trans (memWrite_effect hu)).trans h2).trans (memWrite_effect ht)

theorem pop16_effect {s t : State} {w : Word} (h : pop16 s = .ok w t) : EffectFrame s t := by
  obtain ⟨_, _, _, _, _, rfl⟩ := pop16_ok.mp h
  apply EffectFrame.of_eq <;> rfl

theorem call_effect {target : Word} {s t : State} (h : call target s = .ok () t) : EffectFrame s t := by
  obtain ⟨u, hu, rfl⟩ := call_ok.mp h
  exact (push16_effect hu).trans (by apply EffectFrame.of_eq <;> rfl)

theorem ret_effect {s t : State} (h : ret s = .ok () t) : EffectFrame s t := by
  obtain ⟨w, u, hu, rfl⟩ := ret_ok.mp h
  exact (pop16_effect hu).trans (by apply EffectFrame.of_eq <;> rfl)

theorem fromMem_effect {update : Byte → State → State} {addr : Word} {s t : State}
    (hupdate : ∀ v, EffectFrame s (update v s)) (h : fromMem update addr s = .next t) : EffectFrame s t := by
  obtain ⟨v, _, rfl⟩ := fromMem_next.mp h
  exact hupdate v

theorem modifyAtHl_effect {change : Byte → State → Byte × State} {s t : State}
    (hchange : ∀ v, EffectFrame s (change v s).2) (h : modifyAtHl change s = .next t) : EffectFrame s t := by
  obtain ⟨v, _, ht⟩ := modifyAtHl_next.mp h
  exact (hchange v).trans (memWrite_effect ht)

end Sys2Proof.Machine
end

