-- ==== Sys2Proof/Laws/Step.lean ====
section
/-! SUPPORT. What the parts of a step around the effect can do: the fetch of an instruction, the GPU's check and render, the
accounting, and the step itself. -/

namespace Sys2Proof.Machine

open Sys2Proof

/-! ### The fetch -/

/-- A bus read does not look at PC. -/
@[simp] theorem memRead_setPc (s : State) (p a : Word) (cfg : Settings) :
    memRead { s with pc := p } a cfg = memRead s a cfg := rfl

/-- The fetch of an instruction changes PC and nothing else (R24, R378). -/
theorem fetchInstr_ok {cfg : Settings} {s t : State} {i : Instr} (h : fetchInstr s cfg = .ok i t) :
    t = { s with pc := t.pc } := by
  have hstep : ∀ {u v : State} {x : Byte}, u = { s with pc := u.pc } → fetch8 u cfg = .ok x v → v = { s with pc := v.pc } := by
    intro u v x hu hv
    obtain ⟨_, rfl⟩ := fetch8_ok.mp hv
    rw [hu]
  simp only [fetchInstr, Res.andThen_ok] at h
  obtain ⟨op, u, hop, h⟩ := h
  have hu := hstep rfl hop
  split at h
  · cases h
    exact hu
  · obtain ⟨op2, v, hop2, h⟩ := Res.andThen_ok.mp h
    split at h
    · cases h
      exact hstep hu hop2
    · exact absurd h raise_ne_ok
  · split at h
    · cases h
      exact hu
    · exact absurd h raise_ne_ok
  · split at h
    · obtain ⟨n, v, hn, h⟩ := Res.andThen_ok.mp h
      cases h
      exact hstep hu hn
    · exact absurd h raise_ne_ok
  · split at h
    · obtain ⟨low, v, hlow, h⟩ := Res.andThen_ok.mp h
      obtain ⟨high, w, hhigh, h⟩ := Res.andThen_ok.mp h
      cases h
      exact hstep (hstep hu hlow) hhigh
    · exact absurd h raise_ne_ok

/-- The fetch of bytes that decode to an instruction answers that instruction, PC moved past the bytes (R93, R123). -/
theorem fetchInstr_of_decode {cfg : Settings} {s : State} {i : Instr} {bytes : List Byte}
    (h : Safety.bytesAt s s.pc bytes cfg) (hd : decodeIn cfg.implSets bytes = .ok (i, [])) :
    fetchInstr s cfg = .ok i { s with pc := s.pc + BitVec.ofNat 16 bytes.length } := by
  cases bytes with
  | nil => cases hd
  | cons op tail =>
    obtain ⟨h0, h1⟩ := h
    unfold fetchInstr
    rw [fetch8_of_ok h0, Res.ok_andThen]
    unfold decodeIn at hd
    dsimp only at hd
    cases he : baseEntry op <;> rw [he] at hd <;> simp only at hd ⊢
    case plain =>
      split at hd <;> cases hd
      rename_i hi
      rw [if_pos hi]
      rfl
    case imm8 =>
      split at hd
      · rename_i hi
        split at hd <;> cases hd
        rw [if_pos hi, fetch8_of_ok (s := { s with pc := s.pc + 1 }) h1.1, Res.ok_andThen]
        simp [BitVec.add_assoc]
      · cases hd
    case imm16 =>
      split at hd
      · rename_i hi
        split at hd <;> cases hd
        rw [if_pos hi, fetch8_of_ok (s := { s with pc := s.pc + 1 }) h1.1, Res.ok_andThen,
          fetch8_of_ok (s := { s with pc := s.pc + 1 + 1 }) h1.2.1, Res.ok_andThen]
        simp [BitVec.add_assoc]
      · cases hd
    case escapeCb =>
      cases tail with
      | nil => cases hd
      | cons op2 tl =>
        dsimp only at hd
        split at hd <;> cases hd
        rename_i hi
        rw [fetch8_of_ok (s := { s with pc := s.pc + 1 }) h1.1, Res.ok_andThen, if_pos hi]
        simp [BitVec.add_assoc]
    case unassigned =>
      cases hd
      simp

/-! ### The GPU -/

/-- One check makes at most one transition (R337). -/
theorem Gpu.check_cases (mem : Memory) (g : Gpu) :
    (g.modeClock < g.mode.budget ∧ g.check mem = g) ∨
      (g.mode.budget ≤ g.modeClock ∧
        ((g.mode = .oamScan ∧ g.check mem = { g with modeClock := 0, mode := .vramRead }) ∨
          (g.mode = .vramRead ∧ g.check mem = { g with modeClock := 0, mode := .hBlank }) ∨
          (g.mode = .hBlank ∧ g.line + 1 = 143 ∧
            g.check mem = Gpu.renderFrame mem { g with modeClock := 0, line := g.line + 1, mode := .vBlank }) ∨
          (g.mode = .hBlank ∧ g.line + 1 ≠ 143 ∧
            g.check mem = { g with modeClock := 0, line := g.line + 1, mode := .oamScan }) ∨
          (g.mode = .vBlank ∧ 153 < g.line + 1 ∧ g.check mem = { g with modeClock := 0, line := 0, mode := .oamScan }) ∨
          (g.mode = .vBlank ∧ g.line + 1 ≤ 153 ∧ g.check mem = { g with modeClock := 0, line := g.line + 1 }))) := by
  unfold Gpu.check
  by_cases hb : g.modeClock ≥ g.mode.budget
  · rw [if_pos hb]
    refine .inr ⟨hb, ?_⟩
    cases hm : g.mode <;> simp only [reduceCtorEq, false_and, true_and, false_or, or_false]
    · by_cases hl : g.line + 1 = 143
      · rw [if_pos hl]
        exact .inl ⟨hl, rfl⟩
      · rw [if_neg hl]
        exact .inr ⟨hl, rfl⟩
    · by_cases hl : g.line + 1 > 153
      · rw [if_pos hl]
        exact .inl ⟨hl, rfl⟩
      · rw [if_neg hl]
        exact .inr ⟨by omega, rfl⟩
  · rw [if_neg hb]
    exact .inl ⟨by omega, rfl⟩

/-- A render gives the frame its shape (R347). -/
theorem Gpu.renderFrame_shape (mem : Memory) (g : Gpu) : Safety.frameShape (Gpu.renderFrame mem g).frameBuffer := by
  refine ⟨by simp [Gpu.renderFrame], ?_⟩
  intro row hrow
  simp only [Gpu.renderFrame, List.mem_map] at hrow
  obtain ⟨y, _, rfl⟩ := hrow
  simp

@[simp] theorem Gpu.renderFrame_mode (mem : Memory) (g : Gpu) : (Gpu.renderFrame mem g).mode = g.mode := rfl
@[simp] theorem Gpu.renderFrame_line (mem : Memory) (g : Gpu) : (Gpu.renderFrame mem g).line = g.line := rfl
@[simp] theorem Gpu.renderFrame_modeClock (mem : Memory) (g : Gpu) :
    (Gpu.renderFrame mem g).modeClock = g.modeClock := rfl
@[simp] theorem Gpu.renderFrame_frameCount (mem : Memory) (g : Gpu) :
    (Gpu.renderFrame mem g).frameCount = g.frameCount + 1 := rfl
@[simp] theorem Gpu.advance_mode (g : Gpu) (n : Nat) : (g.advance n).mode = g.mode := rfl
@[simp] theorem Gpu.advance_line (g : Gpu) (n : Nat) : (g.advance n).line = g.line := rfl
@[simp] theorem Gpu.advance_modeClock (g : Gpu) (n : Nat) : (g.advance n).modeClock = g.modeClock + n := rfl
@[simp] theorem Gpu.advance_frameBuffer (g : Gpu) (n : Nat) : (g.advance n).frameBuffer = g.frameBuffer := rfl
@[simp] theorem Gpu.advance_frameCount (g : Gpu) (n : Nat) : (g.advance n).frameCount = g.frameCount := rfl

/-! ### The accounting -/

@[simp] theorem account_f (i : Instr) (s : State) : (account i s).f = s.f := rfl
@[simp] theorem account_sp (i : Instr) (s : State) : (account i s).sp = s.sp := rfl
@[simp] theorem account_pc (i : Instr) (s : State) : (account i s).pc = s.pc := rfl
@[simp] theorem account_ime (i : Instr) (s : State) : (account i s).ime = s.ime := rfl
@[simp] theorem account_halted (i : Instr) (s : State) : (account i s).halted = s.halted := rfl
@[simp] theorem account_fault (i : Instr) (s : State) : (account i s).fault = s.fault := rfl
@[simp] theorem account_notTaken (i : Instr) (s : State) : (account i s).notTaken = false := rfl
@[simp] theorem account_biosMapped (i : Instr) (s : State) : (account i s).biosMapped = s.biosMapped := rfl
@[simp] theorem account_bios (i : Instr) (s : State) : (account i s).bios = s.bios := rfl
@[simp] theorem account_mem (i : Instr) (s : State) : (account i s).mem = s.mem := rfl
@[simp] theorem account_serialOut (i : Instr) (s : State) : (account i s).serialOut = s.serialOut := rfl
@[simp] theorem account_reg (i : Instr) (s : State) (r : Reg8) : (account i s).reg r = s.reg r := by cases r <;> rfl
@[simp] theorem account_mClock (i : Instr) (s : State) :
    (account i s).mClock = s.mClock + cyclesCharged i s.notTaken := rfl
@[simp] theorem account_tClock (i : Instr) (s : State) :
    (account i s).tClock = s.tClock + cyclesCharged i s.notTaken / 4 := rfl
theorem account_gpu (i : Instr) (s : State) :
    (account i s).gpu = (s.gpu.advance (cyclesCharged i s.notTaken / 4)).check s.mem := rfl

/-! ### The step -/

/-- Where a step exists it is the fetch, the effect and the accounting (R121, R129). -/
theorem runStep_ready {cfg : Settings} {effect : Instr → State → Step} {s : State} (hf : s.fault = none)
    (hh : s.halted = false) :
    runStep effect s cfg =
      match fetchInstr s cfg with
      | .raised record left => .fault (.raised record left)
      | .ok i s1 =>
        match effect i s1 with
        | .next s2 => .next (account i s2 cfg)
        | .fault r => .fault r
        | .refused r => .refused r := by
  cases h : fetchInstr s cfg with
  | raised record left => simp [runStep, hf, hh, h]
  | ok i s1 => cases he : effect i s1 <;> simp [runStep, hf, hh, h, he]

/-- A next state came from one fetch, one effect and the accounting (R129). -/
theorem runStep_next {cfg : Settings} {effect : Instr → State → Step} {s t : State} :
    runStep effect s cfg = .next t ↔ s.fault = none ∧ s.halted = false ∧
      ∃ i u v, fetchInstr s cfg = .ok i u ∧ effect i u = .next v ∧ t = account i v cfg := by
  constructor
  · intro h
    cases hf : s.fault with
    | some record => simp [runStep, hf] at h
    | none =>
      cases hh : s.halted with
      | true => simp [runStep, hf, hh] at h
      | false =>
        rw [runStep_ready hf hh] at h
        refine ⟨rfl, rfl, ?_⟩
        cases hfetch : fetchInstr s cfg with
        | raised record left => rw [hfetch] at h; cases h
        | ok i u =>
          rw [hfetch] at h
          cases heffect : effect i u with
          | next v =>
            simp only [heffect, Host.Outcome.next.injEq] at h
            exact ⟨i, u, v, rfl, heffect, h.symm⟩
          | fault r => simp [heffect] at h
          | refused r => simp [heffect] at h
  · rintro ⟨hf, hh, i, u, v, hfetch, heffect, rfl⟩
    rw [runStep_ready hf hh, hfetch]
    simp [heffect]

end Sys2Proof.Machine
end

