-- ==== Sys2Proof/Laws/Forms.lean ====
section
/-! SUPPORT. The instructions by form: the meaning of each form with operands, as one equation, and the principle that what
holds of every form holds of every instruction, so that a claim over the instruction set splits into forms, not rows. -/

namespace Sys2Proof.Machine

open Sys2Proof

/-- The update of an accumulator operation (R238). -/
def aluUpdate (op : AluOp) : Byte → State → State :=
  match op with
  | .add => addA
  | .adc => adcA
  | .sub => subA
  | .sbc => sbcA
  | .and => andA
  | .xor => xorA
  | .or => orA
  | .cp => cpA

/-! ### The meaning of each form -/

theorem exec_ldRegReg (r q : Reg8) (s : State) : exec (.ldRegReg r q) s = fromReg (loadInto r) q s := by
  cases r <;> cases q <;> rfl
theorem exec_ldRegImm (r : Reg8) (n : Byte) (s : State) : exec (.ldRegImm r n) s = fromImm (loadInto r) n s := by
  cases r <;> rfl
theorem exec_ldRegAtHl (r : Reg8) (s : State) : exec (.ldRegAtHl r) s = fromMem (loadInto r) s.hl s := by
  cases r <;> rfl
theorem exec_ldAtHlReg (r : Reg8) (s : State) : exec (.ldAtHlReg r) s = storeMem s.hl (s.reg r) s := by
  cases r <;> rfl
theorem exec_ldPairImm16 (p : Pair) (nn : Word) (s : State) : exec (.ldPairImm16 p nn) s = .next (s.setPair p nn) := by
  cases p <;> rfl
theorem exec_pushPair (p : StackPair) (s : State) : exec (.pushPair p) s = (push16 (s.stackPair p) s).outcome := by
  cases p <;> rfl
theorem exec_popPair (p : StackPair) (s : State) : exec (.popPair p) s = popInto p s := by
  cases p <;> rfl
theorem exec_aluReg (op : AluOp) (r : Reg8) (s : State) : exec (.aluReg op r) s = fromReg (aluUpdate op) r s := by
  cases op <;> cases r <;> rfl
theorem exec_aluImm (op : AluOp) (n : Byte) (s : State) : exec (.aluImm op n) s = fromImm (aluUpdate op) n s := by
  cases op <;> rfl
theorem exec_aluAtHl (op : AluOp) (s : State) : exec (.aluAtHl op) s = fromMem (aluUpdate op) s.hl s := by
  cases op <;> rfl
theorem exec_incReg (r : Reg8) (s : State) : exec (.incReg r) s = modifyReg incByte r s := by
  cases r <;> rfl
theorem exec_decReg (r : Reg8) (s : State) : exec (.decReg r) s = modifyReg decByte r s := by
  cases r <;> rfl
theorem exec_addHlPair (p : Pair) (s : State) : exec (.addHlPair p) s = addHl p s := by
  cases p <;> rfl
theorem exec_incPair (p : Pair) (s : State) : exec (.incPair p) s = .next (s.setPair p (s.pair p + 1)) := by
  cases p <;> rfl
theorem exec_decPair (p : Pair) (s : State) : exec (.decPair p) s = .next (s.setPair p (s.pair p - 1)) := by
  cases p <;> rfl
theorem exec_jpCond (cc : Cond) (nn : Word) (s : State) :
    exec (.jpCond cc nn) s = ifCond cc (fun u => done { u with pc := nn }) s := by
  cases cc <;> rfl
theorem exec_jrCond (cc : Cond) (n : Byte) (s : State) :
    exec (.jrCond cc n) s = ifCond cc (fun u => done (jumpRel n u)) s := by
  cases cc <;> rfl
theorem exec_callCond (cc : Cond) (nn : Word) (s : State) : exec (.callCond cc nn) s = ifCond cc (call nn ·) s := by
  cases cc <;> rfl
theorem exec_retCond (cc : Cond) (s : State) : exec (.retCond cc) s = ifCond cc (ret ·) s := by
  cases cc <;> rfl
theorem exec_rotReg (k : RotKind) (r : Reg8) (s : State) : exec (.rotReg k r) s = modifyReg (rotate k) r s := by
  cases k <;> cases r <;> rfl
theorem exec_rotAtHl (k : RotKind) (s : State) : exec (.rotAtHl k) s = modifyAtHl (rotate k) s := by
  cases k <;> rfl

/-- The eight values of a bit index or RST field. -/
theorem index_cases (n : BitVec 3) :
    n = 0 ∨ n = 1 ∨ n = 2 ∨ n = 3 ∨ n = 4 ∨ n = 5 ∨ n = 6 ∨ n = 7 := by
  revert n
  decide

theorem exec_rstTo (y : BitVec 3) (s : State) :
    exec (.rstTo y) s = (call (word 0x00 (BitVec.ofNat 8 (8 * y.toNat))) s).outcome := by
  rcases index_cases y with rfl | rfl | rfl | rfl | rfl | rfl | rfl | rfl <;> rfl
theorem exec_bitReg (n : BitVec 3) (r : Reg8) (s : State) : exec (.bitReg n r) s = fromReg (testBit n) r s := by
  rcases index_cases n with rfl | rfl | rfl | rfl | rfl | rfl | rfl | rfl <;> cases r <;> rfl
theorem exec_bitAtHl (n : BitVec 3) (s : State) : exec (.bitAtHl n) s = fromMem (testBit n) s.hl s := by
  rcases index_cases n with rfl | rfl | rfl | rfl | rfl | rfl | rfl | rfl <;> rfl
theorem exec_resReg (n : BitVec 3) (r : Reg8) (s : State) : exec (.resReg n r) s = modifyReg (clearBit n) r s := by
  rcases index_cases n with rfl | rfl | rfl | rfl | rfl | rfl | rfl | rfl <;> cases r <;> rfl
theorem exec_resAtHl (n : BitVec 3) (s : State) : exec (.resAtHl n) s = modifyAtHl (clearBit n) s := by
  rcases index_cases n with rfl | rfl | rfl | rfl | rfl | rfl | rfl | rfl <;> rfl
theorem exec_setReg (n : BitVec 3) (r : Reg8) (s : State) : exec (.setReg n r) s = modifyReg (setBit n) r s := by
  rcases index_cases n with rfl | rfl | rfl | rfl | rfl | rfl | rfl | rfl <;> cases r <;> rfl
theorem exec_setAtHl (n : BitVec 3) (s : State) : exec (.setAtHl n) s = modifyAtHl (setBit n) s := by
  rcases index_cases n with rfl | rfl | rfl | rfl | rfl | rfl | rfl | rfl <;> rfl

/-! ### The forms cover the instruction set -/

/-- What holds of the instructions of 42_load8.md and 43_load16_stack.md, one premise per form. -/
structure LoadForms (P : Instr → Prop) : Prop where
  ldRegReg : ∀ r q, P (.ldRegReg r q)
  ldRegImm : ∀ r n, P (.ldRegImm r n)
  ldRegAtHl : ∀ r, P (.ldRegAtHl r)
  ldAtHlReg : ∀ r, P (.ldAtHlReg r)
  ldAtHlImm : ∀ n, P (.ldAtHlImm n)
  ldAAtBc : P .ldAAtBc
  ldAAtDe : P .ldAAtDe
  ldAtBcA : P .ldAtBcA
  ldAtDeA : P .ldAtDeA
  ldAAtImm16 : ∀ nn, P (.ldAAtImm16 nn)
  ldAtImm16A : ∀ nn, P (.ldAtImm16A nn)
  ldhAAtImm : ∀ n, P (.ldhAAtImm n)
  ldhAtImmA : ∀ n, P (.ldhAtImmA n)
  ldAAtC : P .ldAAtC
  ldAtCA : P .ldAtCA
  ldAtHlIncA : P .ldAtHlIncA
  ldAtHlDecA : P .ldAtHlDecA
  ldAAtHlInc : P .ldAAtHlInc
  ldAAtHlDec : P .ldAAtHlDec
  ldPairImm16 : ∀ p nn, P (.ldPairImm16 p nn)
  ldAtImm16Sp : ∀ nn, P (.ldAtImm16Sp nn)
  ldSpHl : P .ldSpHl
  ldHlSpRel : ∀ n, P (.ldHlSpRel n)
  pushPair : ∀ p, P (.pushPair p)
  popPair : ∀ p, P (.popPair p)

/-- What holds of the instructions of 44_alu8.md and 45_alu16_misc.md. -/
structure ArithmeticForms (P : Instr → Prop) : Prop where
  aluReg : ∀ op r, P (.aluReg op r)
  aluImm : ∀ op n, P (.aluImm op n)
  aluAtHl : ∀ op, P (.aluAtHl op)
  incReg : ∀ r, P (.incReg r)
  decReg : ∀ r, P (.decReg r)
  incAtHl : P .incAtHl
  decAtHl : P .decAtHl
  addHlPair : ∀ p, P (.addHlPair p)
  addSpRel : ∀ n, P (.addSpRel n)
  incPair : ∀ p, P (.incPair p)
  decPair : ∀ p, P (.decPair p)
  rlca : P .rlca
  rrca : P .rrca
  rla : P .rla
  rra : P .rra
  daa : P .daa
  cpl : P .cpl
  scf : P .scf
  ccf : P .ccf
  nop : P .nop

/-- What holds of the instructions of 46_control_transfer.md and 48_system.md. -/
structure ControlForms (P : Instr → Prop) : Prop where
  jpImm16 : ∀ nn, P (.jpImm16 nn)
  jpHl : P .jpHl
  jrRel : ∀ n, P (.jrRel n)
  jpCond : ∀ cc nn, P (.jpCond cc nn)
  jrCond : ∀ cc n, P (.jrCond cc n)
  callImm16 : ∀ nn, P (.callImm16 nn)
  callCond : ∀ cc nn, P (.callCond cc nn)
  rstTo : ∀ y, P (.rstTo y)
  ret : P .ret
  retCond : ∀ cc, P (.retCond cc)
  reti : P .reti
  halt : P .halt
  stop : ∀ n, P (.stop n)
  di : P .di
  ei : P .ei
  unassigned : ∀ op i, (op, i) ∈ Safety.unassignedRows → P i

/-- What holds of the instructions of 47_cb_prefixed.md. -/
structure CbForms (P : Instr → Prop) : Prop where
  rotReg : ∀ k r, P (.rotReg k r)
  rotAtHl : ∀ k, P (.rotAtHl k)
  bitReg : ∀ n r, P (.bitReg n r)
  bitAtHl : ∀ n, P (.bitAtHl n)
  resReg : ∀ n r, P (.resReg n r)
  resAtHl : ∀ n, P (.resAtHl n)
  setReg : ∀ n r, P (.setReg n r)
  setAtHl : ∀ n, P (.setAtHl n)

/-- What holds of every form holds of every instruction. -/
theorem Instr.of_forms {P : Instr → Prop} (load : LoadForms P) (arithmetic : ArithmeticForms P) (control : ControlForms P)
    (cb : CbForms P) (i : Instr) : P i :=
  match i with
  | .nop => arithmetic.nop
  | .ldBcImm16 nn => load.ldPairImm16 .bc nn
  | .ldAtBcA => load.ldAtBcA
  | .incBc => arithmetic.incPair .bc
  | .incB => arithmetic.incReg .b
  | .decB => arithmetic.decReg .b
  | .ldBImm n => load.ldRegImm .b n
  | .rlca => arithmetic.rlca
  | .ldAtImm16Sp nn => load.ldAtImm16Sp nn
  | .addHlBc => arithmetic.addHlPair .bc
  | .ldAAtBc => load.ldAAtBc
  | .decBc => arithmetic.decPair .bc
  | .incC => arithmetic.incReg .c
  | .decC => arithmetic.decReg .c
  | .ldCImm n => load.ldRegImm .c n
  | .rrca => arithmetic.rrca
  | .stop n => control.stop n
  | .ldDeImm16 nn => load.ldPairImm16 .de nn
  | .ldAtDeA => load.ldAtDeA
  | .incDe => arithmetic.incPair .de
  | .incD => arithmetic.incReg .d
  | .decD => arithmetic.decReg .d
  | .ldDImm n => load.ldRegImm .d n
  | .rla => arithmetic.rla
  | .jrRel n => control.jrRel n
  | .addHlDe => arithmetic.addHlPair .de
  | .ldAAtDe => load.ldAAtDe
  | .decDe => arithmetic.decPair .de
  | .incE => arithmetic.incReg .e
  | .decE => arithmetic.decReg .e
  | .ldEImm n => load.ldRegImm .e n
  | .rra => arithmetic.rra
  | .jrNzRel n => control.jrCond .nz n
  | .ldHlImm16 nn => load.ldPairImm16 .hl nn
  | .ldAtHlIncA => load.ldAtHlIncA
  | .incHl => arithmetic.incPair .hl
  | .incH => arithmetic.incReg .h
  | .decH => arithmetic.decReg .h
  | .ldHImm n => load.ldRegImm .h n
  | .daa => arithmetic.daa
  | .jrZRel n => control.jrCond .z n
  | .addHlHl => arithmetic.addHlPair .hl
  | .ldAAtHlInc => load.ldAAtHlInc
  | .decHl => arithmetic.decPair .hl
  | .incL => arithmetic.incReg .l
  | .decL => arithmetic.decReg .l
  | .ldLImm n => load.ldRegImm .l n
  | .cpl => arithmetic.cpl
  | .jrNcRel n => control.jrCond .nc n
  | .ldSpImm16 nn => load.ldPairImm16 .sp nn
  | .ldAtHlDecA => load.ldAtHlDecA
  | .incSp => arithmetic.incPair .sp
  | .incAtHl => arithmetic.incAtHl
  | .decAtHl => arithmetic.decAtHl
  | .ldAtHlImm n => load.ldAtHlImm n
  | .scf => arithmetic.scf
  | .jrCRel n => control.jrCond .c n
  | .addHlSp => arithmetic.addHlPair .sp
  | .ldAAtHlDec => load.ldAAtHlDec
  | .decSp => arithmetic.decPair .sp
  | .incA => arithmetic.incReg .a
  | .decA => arithmetic.decReg .a
  | .ldAImm n => load.ldRegImm .a n
  | .ccf => arithmetic.ccf
  | .ldBB => load.ldRegReg .b .b
  | .ldBC => load.ldRegReg .b .c
  | .ldBD => load.ldRegReg .b .d
  | .ldBE => load.ldRegReg .b .e
  | .ldBH => load.ldRegReg .b .h
  | .ldBL => load.ldRegReg .b .l
  | .ldBAtHl => load.ldRegAtHl .b
  | .ldBA => load.ldRegReg .b .a
  | .ldCB => load.ldRegReg .c .b
  | .ldCC => load.ldRegReg .c .c
  | .ldCD => load.ldRegReg .c .d
  | .ldCE => load.ldRegReg .c .e
  | .ldCH => load.ldRegReg .c .h
  | .ldCL => load.ldRegReg .c .l
  | .ldCAtHl => load.ldRegAtHl .c
  | .ldCA => load.ldRegReg .c .a
  | .ldDB => load.ldRegReg .d .b
  | .ldDC => load.ldRegReg .d .c
  | .ldDD => load.ldRegReg .d .d
  | .ldDE => load.ldRegReg .d .e
  | .ldDH => load.ldRegReg .d .h
  | .ldDL => load.ldRegReg .d .l
  | .ldDAtHl => load.ldRegAtHl .d
  | .ldDA => load.ldRegReg .d .a
  | .ldEB => load.ldRegReg .e .b
  | .ldEC => load.ldRegReg .e .c
  | .ldED => load.ldRegReg .e .d
  | .ldEE => load.ldRegReg .e .e
  | .ldEH => load.ldRegReg .e .h
  | .ldEL => load.ldRegReg .e .l
  | .ldEAtHl => load.ldRegAtHl .e
  | .ldEA => load.ldRegReg .e .a
  | .ldHB => load.ldRegReg .h .b
  | .ldHC => load.ldRegReg .h .c
  | .ldHD => load.ldRegReg .h .d
  | .ldHE => load.ldRegReg .h .e
  | .ldHH => load.ldRegReg .h .h
  | .ldHL => load.ldRegReg .h .l
  | .ldHAtHl => load.ldRegAtHl .h
  | .ldHA => load.ldRegReg .h .a
  | .ldLB => load.ldRegReg .l .b
  | .ldLC => load.ldRegReg .l .c
  | .ldLD => load.ldRegReg .l .d
  | .ldLE => load.ldRegReg .l .e
  | .ldLH => load.ldRegReg .l .h
  | .ldLL => load.ldRegReg .l .l
  | .ldLAtHl => load.ldRegAtHl .l
  | .ldLA => load.ldRegReg .l .a
  | .ldAtHlB => load.ldAtHlReg .b
  | .ldAtHlC => load.ldAtHlReg .c
  | .ldAtHlD => load.ldAtHlReg .d
  | .ldAtHlE => load.ldAtHlReg .e
  | .ldAtHlH => load.ldAtHlReg .h
  | .ldAtHlL => load.ldAtHlReg .l
  | .halt => control.halt
  | .ldAtHlA => load.ldAtHlReg .a
  | .ldAB => load.ldRegReg .a .b
  | .ldAC => load.ldRegReg .a .c
  | .ldAD => load.ldRegReg .a .d
  | .ldAE => load.ldRegReg .a .e
  | .ldAH => load.ldRegReg .a .h
  | .ldAL => load.ldRegReg .a .l
  | .ldAAtHl => load.ldRegAtHl .a
  | .ldAA => load.ldRegReg .a .a
  | .addAB => arithmetic.aluReg .add .b
  | .addAC => arithmetic.aluReg .add .c
  | .addAD => arithmetic.aluReg .add .d
  | .addAE => arithmetic.aluReg .add .e
  | .addAH => arithmetic.aluReg .add .h
  | .addAL => arithmetic.aluReg .add .l
  | .addAAtHl => arithmetic.aluAtHl .add
  | .addAA => arithmetic.aluReg .add .a
  | .adcAB => arithmetic.aluReg .adc .b
  | .adcAC => arithmetic.aluReg .adc .c
  | .adcAD => arithmetic.aluReg .adc .d
  | .adcAE => arithmetic.aluReg .adc .e
  | .adcAH => arithmetic.aluReg .adc .h
  | .adcAL => arithmetic.aluReg .adc .l
  | .adcAAtHl => arithmetic.aluAtHl .adc
  | .adcAA => arithmetic.aluReg .adc .a
  | .subAB => arithmetic.aluReg .sub .b
  | .subAC => arithmetic.aluReg .sub .c
  | .subAD => arithmetic.aluReg .sub .d
  | .subAE => arithmetic.aluReg .sub .e
  | .subAH => arithmetic.aluReg .sub .h
  | .subAL => arithmetic.aluReg .sub .l
  | .subAAtHl => arithmetic.aluAtHl .sub
  | .subAA => arithmetic.aluReg .sub .a
  | .sbcAB => arithmetic.aluReg .sbc .b
  | .sbcAC => arithmetic.aluReg .sbc .c
  | .sbcAD => arithmetic.aluReg .sbc .d
  | .sbcAE => arithmetic.aluReg .sbc .e
  | .sbcAH => arithmetic.aluReg .sbc .h
  | .sbcAL => arithmetic.aluReg .sbc .l
  | .sbcAAtHl => arithmetic.aluAtHl .sbc
  | .sbcAA => arithmetic.aluReg .sbc .a
  | .andAB => arithmetic.aluReg .and .b
  | .andAC => arithmetic.aluReg .and .c
  | .andAD => arithmetic.aluReg .and .d
  | .andAE => arithmetic.aluReg .and .e
  | .andAH => arithmetic.aluReg .and .h
  | .andAL => arithmetic.aluReg .and .l
  | .andAAtHl => arithmetic.aluAtHl .and
  | .andAA => arithmetic.aluReg .and .a
  | .xorAB => arithmetic.aluReg .xor .b
  | .xorAC => arithmetic.aluReg .xor .c
  | .xorAD => arithmetic.aluReg .xor .d
  | .xorAE => arithmetic.aluReg .xor .e
  | .xorAH => arithmetic.aluReg .xor .h
  | .xorAL => arithmetic.aluReg .xor .l
  | .xorAAtHl => arithmetic.aluAtHl .xor
  | .xorAA => arithmetic.aluReg .xor .a
  | .orAB => arithmetic.aluReg .or .b
  | .orAC => arithmetic.aluReg .or .c
  | .orAD => arithmetic.aluReg .or .d
  | .orAE => arithmetic.aluReg .or .e
  | .orAH => arithmetic.aluReg .or .h
  | .orAL => arithmetic.aluReg .or .l
  | .orAAtHl => arithmetic.aluAtHl .or
  | .orAA => arithmetic.aluReg .or .a
  | .cpAB => arithmetic.aluReg .cp .b
  | .cpAC => arithmetic.aluReg .cp .c
  | .cpAD => arithmetic.aluReg .cp .d
  | .cpAE => arithmetic.aluReg .cp .e
  | .cpAH => arithmetic.aluReg .cp .h
  | .cpAL => arithmetic.aluReg .cp .l
  | .cpAAtHl => arithmetic.aluAtHl .cp
  | .cpAA => arithmetic.aluReg .cp .a
  | .retNz => control.retCond .nz
  | .popBc => load.popPair .bc
  | .jpNzImm16 nn => control.jpCond .nz nn
  | .jpImm16 nn => control.jpImm16 nn
  | .callNzImm16 nn => control.callCond .nz nn
  | .pushBc => load.pushPair .bc
  | .addAImm n => arithmetic.aluImm .add n
  | .rst00 => control.rstTo 0
  | .retZ => control.retCond .z
  | .ret => control.ret
  | .jpZImm16 nn => control.jpCond .z nn
  | .callZImm16 nn => control.callCond .z nn
  | .callImm16 nn => control.callImm16 nn
  | .adcAImm n => arithmetic.aluImm .adc n
  | .rst08 => control.rstTo 1
  | .retNc => control.retCond .nc
  | .popDe => load.popPair .de
  | .jpNcImm16 nn => control.jpCond .nc nn
  | .undefinedD3 => control.unassigned 0xD3 _ (by simp [Safety.unassignedRows])
  | .callNcImm16 nn => control.callCond .nc nn
  | .pushDe => load.pushPair .de
  | .subAImm n => arithmetic.aluImm .sub n
  | .rst10 => control.rstTo 2
  | .retC => control.retCond .c
  | .reti => control.reti
  | .jpCImm16 nn => control.jpCond .c nn
  | .undefinedDB => control.unassigned 0xDB _ (by simp [Safety.unassignedRows])
  | .callCImm16 nn => control.callCond .c nn
  | .undefinedDD => control.unassigned 0xDD _ (by simp [Safety.unassignedRows])
  | .sbcAImm n => arithmetic.aluImm .sbc n
  | .rst18 => control.rstTo 3
  | .ldhAtImmA n => load.ldhAtImmA n
  | .popHl => load.popPair .hl
  | .ldAtCA => load.ldAtCA
  | .undefinedE3 => control.unassigned 0xE3 _ (by simp [Safety.unassignedRows])
  | .undefinedE4 => control.unassigned 0xE4 _ (by simp [Safety.unassignedRows])
  | .pushHl => load.pushPair .hl
  | .andAImm n => arithmetic.aluImm .and n
  | .rst20 => control.rstTo 4
  | .addSpRel n => arithmetic.addSpRel n
  | .jpHl => control.jpHl
  | .ldAtImm16A nn => load.ldAtImm16A nn
  | .undefinedEB => control.unassigned 0xEB _ (by simp [Safety.unassignedRows])
  | .undefinedEC => control.unassigned 0xEC _ (by simp [Safety.unassignedRows])
  | .undefinedED => control.unassigned 0xED _ (by simp [Safety.unassignedRows])
  | .xorAImm n => arithmetic.aluImm .xor n
  | .rst28 => control.rstTo 5
  | .ldhAAtImm n => load.ldhAAtImm n
  | .popAf => load.popPair .af
  | .ldAAtC => load.ldAAtC
  | .di => control.di
  | .undefinedF4 => control.unassigned 0xF4 _ (by simp [Safety.unassignedRows])
  | .pushAf => load.pushPair .af
  | .orAImm n => arithmetic.aluImm .or n
  | .rst30 => control.rstTo 6
  | .ldHlSpRel n => load.ldHlSpRel n
  | .ldSpHl => load.ldSpHl
  | .ldAAtImm16 nn => load.ldAAtImm16 nn
  | .ei => control.ei
  | .undefinedFC => control.unassigned 0xFC _ (by simp [Safety.unassignedRows])
  | .undefinedFD => control.unassigned 0xFD _ (by simp [Safety.unassignedRows])
  | .cpAImm n => arithmetic.aluImm .cp n
  | .rst38 => control.rstTo 7
  | .rlcB => cb.rotReg .rlc .b
  | .rlcC => cb.rotReg .rlc .c
  | .rlcD => cb.rotReg .rlc .d
  | .rlcE => cb.rotReg .rlc .e
  | .rlcH => cb.rotReg .rlc .h
  | .rlcL => cb.rotReg .rlc .l
  | .rlcAtHl => cb.rotAtHl .rlc
  | .rlcA => cb.rotReg .rlc .a
  | .rrcB => cb.rotReg .rrc .b
  | .rrcC => cb.rotReg .rrc .c
  | .rrcD => cb.rotReg .rrc .d
  | .rrcE => cb.rotReg .rrc .e
  | .rrcH => cb.rotReg .rrc .h
  | .rrcL => cb.rotReg .rrc .l
  | .rrcAtHl => cb.rotAtHl .rrc
  | .rrcA => cb.rotReg .rrc .a
  | .rlB => cb.rotReg .rl .b
  | .rlC => cb.rotReg .rl .c
  | .rlD => cb.rotReg .rl .d
  | .rlE => cb.rotReg .rl .e
  | .rlH => cb.rotReg .rl .h
  | .rlL => cb.rotReg .rl .l
  | .rlAtHl => cb.rotAtHl .rl
  | .rlA => cb.rotReg .rl .a
  | .rrB => cb.rotReg .rr .b
  | .rrC => cb.rotReg .rr .c
  | .rrD => cb.rotReg .rr .d
  | .rrE => cb.rotReg .rr .e
  | .rrH => cb.rotReg .rr .h
  | .rrL => cb.rotReg .rr .l
  | .rrAtHl => cb.rotAtHl .rr
  | .rrA => cb.rotReg .rr .a
  | .slaB => cb.rotReg .sla .b
  | .slaC => cb.rotReg .sla .c
  | .slaD => cb.rotReg .sla .d
  | .slaE => cb.rotReg .sla .e
  | .slaH => cb.rotReg .sla .h
  | .slaL => cb.rotReg .sla .l
  | .slaAtHl => cb.rotAtHl .sla
  | .slaA => cb.rotReg .sla .a
  | .sraB => cb.rotReg .sra .b
  | .sraC => cb.rotReg .sra .c
  | .sraD => cb.rotReg .sra .d
  | .sraE => cb.rotReg .sra .e
  | .sraH => cb.rotReg .sra .h
  | .sraL => cb.rotReg .sra .l
  | .sraAtHl => cb.rotAtHl .sra
  | .sraA => cb.rotReg .sra .a
  | .swapB => cb.rotReg .swap .b
  | .swapC => cb.rotReg .swap .c
  | .swapD => cb.rotReg .swap .d
  | .swapE => cb.rotReg .swap .e
  | .swapH => cb.rotReg .swap .h
  | .swapL => cb.rotReg .swap .l
  | .swapAtHl => cb.rotAtHl .swap
  | .swapA => cb.rotReg .swap .a
  | .srlB => cb.rotReg .srl .b
  | .srlC => cb.rotReg .srl .c
  | .srlD => cb.rotReg .srl .d
  | .srlE => cb.rotReg .srl .e
  | .srlH => cb.rotReg .srl .h
  | .srlL => cb.rotReg .srl .l
  | .srlAtHl => cb.rotAtHl .srl
  | .srlA => cb.rotReg .srl .a
  | .bit0B => cb.bitReg 0 .b
  | .bit0C => cb.bitReg 0 .c
  | .bit0D => cb.bitReg 0 .d
  | .bit0E => cb.bitReg 0 .e
  | .bit0H => cb.bitReg 0 .h
  | .bit0L => cb.bitReg 0 .l
  | .bit0AtHl => cb.bitAtHl 0
  | .bit0A => cb.bitReg 0 .a
  | .bit1B => cb.bitReg 1 .b
  | .bit1C => cb.bitReg 1 .c
  | .bit1D => cb.bitReg 1 .d
  | .bit1E => cb.bitReg 1 .e
  | .bit1H => cb.bitReg 1 .h
  | .bit1L => cb.bitReg 1 .l
  | .bit1AtHl => cb.bitAtHl 1
  | .bit1A => cb.bitReg 1 .a
  | .bit2B => cb.bitReg 2 .b
  | .bit2C => cb.bitReg 2 .c
  | .bit2D => cb.bitReg 2 .d
  | .bit2E => cb.bitReg 2 .e
  | .bit2H => cb.bitReg 2 .h
  | .bit2L => cb.bitReg 2 .l
  | .bit2AtHl => cb.bitAtHl 2
  | .bit2A => cb.bitReg 2 .a
  | .bit3B => cb.bitReg 3 .b
  | .bit3C => cb.bitReg 3 .c
  | .bit3D => cb.bitReg 3 .d
  | .bit3E => cb.bitReg 3 .e
  | .bit3H => cb.bitReg 3 .h
  | .bit3L => cb.bitReg 3 .l
  | .bit3AtHl => cb.bitAtHl 3
  | .bit3A => cb.bitReg 3 .a
  | .bit4B => cb.bitReg 4 .b
  | .bit4C => cb.bitReg 4 .c
  | .bit4D => cb.bitReg 4 .d
  | .bit4E => cb.bitReg 4 .e
  | .bit4H => cb.bitReg 4 .h
  | .bit4L => cb.bitReg 4 .l
  | .bit4AtHl => cb.bitAtHl 4
  | .bit4A => cb.bitReg 4 .a
  | .bit5B => cb.bitReg 5 .b
  | .bit5C => cb.bitReg 5 .c
  | .bit5D => cb.bitReg 5 .d
  | .bit5E => cb.bitReg 5 .e
  | .bit5H => cb.bitReg 5 .h
  | .bit5L => cb.bitReg 5 .l
  | .bit5AtHl => cb.bitAtHl 5
  | .bit5A => cb.bitReg 5 .a
  | .bit6B => cb.bitReg 6 .b
  | .bit6C => cb.bitReg 6 .c
  | .bit6D => cb.bitReg 6 .d
  | .bit6E => cb.bitReg 6 .e
  | .bit6H => cb.bitReg 6 .h
  | .bit6L => cb.bitReg 6 .l
  | .bit6AtHl => cb.bitAtHl 6
  | .bit6A => cb.bitReg 6 .a
  | .bit7B => cb.bitReg 7 .b
  | .bit7C => cb.bitReg 7 .c
  | .bit7D => cb.bitReg 7 .d
  | .bit7E => cb.bitReg 7 .e
  | .bit7H => cb.bitReg 7 .h
  | .bit7L => cb.bitReg 7 .l
  | .bit7AtHl => cb.bitAtHl 7
  | .bit7A => cb.bitReg 7 .a
  | .res0B => cb.resReg 0 .b
  | .res0C => cb.resReg 0 .c
  | .res0D => cb.resReg 0 .d
  | .res0E => cb.resReg 0 .e
  | .res0H => cb.resReg 0 .h
  | .res0L => cb.resReg 0 .l
  | .res0AtHl => cb.resAtHl 0
  | .res0A => cb.resReg 0 .a
  | .res1B => cb.resReg 1 .b
  | .res1C => cb.resReg 1 .c
  | .res1D => cb.resReg 1 .d
  | .res1E => cb.resReg 1 .e
  | .res1H => cb.resReg 1 .h
  | .res1L => cb.resReg 1 .l
  | .res1AtHl => cb.resAtHl 1
  | .res1A => cb.resReg 1 .a
  | .res2B => cb.resReg 2 .b
  | .res2C => cb.resReg 2 .c
  | .res2D => cb.resReg 2 .d
  | .res2E => cb.resReg 2 .e
  | .res2H => cb.resReg 2 .h
  | .res2L => cb.resReg 2 .l
  | .res2AtHl => cb.resAtHl 2
  | .res2A => cb.resReg 2 .a
  | .res3B => cb.resReg 3 .b
  | .res3C => cb.resReg 3 .c
  | .res3D => cb.resReg 3 .d
  | .res3E => cb.resReg 3 .e
  | .res3H => cb.resReg 3 .h
  | .res3L => cb.resReg 3 .l
  | .res3AtHl => cb.resAtHl 3
  | .res3A => cb.resReg 3 .a
  | .res4B => cb.resReg 4 .b
  | .res4C => cb.resReg 4 .c
  | .res4D => cb.resReg 4 .d
  | .res4E => cb.resReg 4 .e
  | .res4H => cb.resReg 4 .h
  | .res4L => cb.resReg 4 .l
  | .res4AtHl => cb.resAtHl 4
  | .res4A => cb.resReg 4 .a
  | .res5B => cb.resReg 5 .b
  | .res5C => cb.resReg 5 .c
  | .res5D => cb.resReg 5 .d
  | .res5E => cb.resReg 5 .e
  | .res5H => cb.resReg 5 .h
  | .res5L => cb.resReg 5 .l
  | .res5AtHl => cb.resAtHl 5
  | .res5A => cb.resReg 5 .a
  | .res6B => cb.resReg 6 .b
  | .res6C => cb.resReg 6 .c
  | .res6D => cb.resReg 6 .d
  | .res6E => cb.resReg 6 .e
  | .res6H => cb.resReg 6 .h
  | .res6L => cb.resReg 6 .l
  | .res6AtHl => cb.resAtHl 6
  | .res6A => cb.resReg 6 .a
  | .res7B => cb.resReg 7 .b
  | .res7C => cb.resReg 7 .c
  | .res7D => cb.resReg 7 .d
  | .res7E => cb.resReg 7 .e
  | .res7H => cb.resReg 7 .h
  | .res7L => cb.resReg 7 .l
  | .res7AtHl => cb.resAtHl 7
  | .res7A => cb.resReg 7 .a
  | .set0B => cb.setReg 0 .b
  | .set0C => cb.setReg 0 .c
  | .set0D => cb.setReg 0 .d
  | .set0E => cb.setReg 0 .e
  | .set0H => cb.setReg 0 .h
  | .set0L => cb.setReg 0 .l
  | .set0AtHl => cb.setAtHl 0
  | .set0A => cb.setReg 0 .a
  | .set1B => cb.setReg 1 .b
  | .set1C => cb.setReg 1 .c
  | .set1D => cb.setReg 1 .d
  | .set1E => cb.setReg 1 .e
  | .set1H => cb.setReg 1 .h
  | .set1L => cb.setReg 1 .l
  | .set1AtHl => cb.setAtHl 1
  | .set1A => cb.setReg 1 .a
  | .set2B => cb.setReg 2 .b
  | .set2C => cb.setReg 2 .c
  | .set2D => cb.setReg 2 .d
  | .set2E => cb.setReg 2 .e
  | .set2H => cb.setReg 2 .h
  | .set2L => cb.setReg 2 .l
  | .set2AtHl => cb.setAtHl 2
  | .set2A => cb.setReg 2 .a
  | .set3B => cb.setReg 3 .b
  | .set3C => cb.setReg 3 .c
  | .set3D => cb.setReg 3 .d
  | .set3E => cb.setReg 3 .e
  | .set3H => cb.setReg 3 .h
  | .set3L => cb.setReg 3 .l
  | .set3AtHl => cb.setAtHl 3
  | .set3A => cb.setReg 3 .a
  | .set4B => cb.setReg 4 .b
  | .set4C => cb.setReg 4 .c
  | .set4D => cb.setReg 4 .d
  | .set4E => cb.setReg 4 .e
  | .set4H => cb.setReg 4 .h
  | .set4L => cb.setReg 4 .l
  | .set4AtHl => cb.setAtHl 4
  | .set4A => cb.setReg 4 .a
  | .set5B => cb.setReg 5 .b
  | .set5C => cb.setReg 5 .c
  | .set5D => cb.setReg 5 .d
  | .set5E => cb.setReg 5 .e
  | .set5H => cb.setReg 5 .h
  | .set5L => cb.setReg 5 .l
  | .set5AtHl => cb.setAtHl 5
  | .set5A => cb.setReg 5 .a
  | .set6B => cb.setReg 6 .b
  | .set6C => cb.setReg 6 .c
  | .set6D => cb.setReg 6 .d
  | .set6E => cb.setReg 6 .e
  | .set6H => cb.setReg 6 .h
  | .set6L => cb.setReg 6 .l
  | .set6AtHl => cb.setAtHl 6
  | .set6A => cb.setReg 6 .a
  | .set7B => cb.setReg 7 .b
  | .set7C => cb.setReg 7 .c
  | .set7D => cb.setReg 7 .d
  | .set7E => cb.setReg 7 .e
  | .set7H => cb.setReg 7 .h
  | .set7L => cb.setReg 7 .l
  | .set7AtHl => cb.setAtHl 7
  | .set7A => cb.setReg 7 .a

end Sys2Proof.Machine
end

