-- ==== Sys2Proof/Laws/Exec.lean ====
section
/-! SUPPORT. What every instruction's effect leaves of a state, proved form by form and collected once: `exec_effect`. -/

namespace Sys2Proof.Machine

open Sys2Proof

/-! ### The updates of the forms -/

theorem EffectFrame.flagsThenReg (s : State) (z n h c : Option Bool) (r : Reg8) (v : Byte) :
    EffectFrame s ((s.setFlags z n h c).setReg r v) := (EffectFrame.setFlags s z n h c).trans (EffectFrame.setReg _ r v)

theorem EffectFrame.flagsThenHl (s : State) (z n h c : Option Bool) (w : Word) :
    EffectFrame s ((s.setFlags z n h c).setHl w) := (EffectFrame.setFlags s z n h c).trans (EffectFrame.setHl _ w)

theorem loadInto_effect (r : Reg8) (v : Byte) (s : State) : EffectFrame s (loadInto r v s) := EffectFrame.setReg s r v

theorem aluUpdate_effect (op : AluOp) (v : Byte) (s : State) : EffectFrame s (aluUpdate op v s) := by
  cases op
  case cp => exact EffectFrame.setFlags _ _ _ _ _
  all_goals
    dsimp only [aluUpdate, addA, adcA, subA, sbcA, andA, xorA, orA, subFlags, subIn, addIn, adcIn, sbcIn, subFlagsIn]
    exact EffectFrame.flagsThenReg _ _ _ _ _ _ _

theorem incByte_effect (v : Byte) (s : State) : EffectFrame s (incByte v s).2 := EffectFrame.setFlags _ _ _ _ _
theorem decByte_effect (v : Byte) (s : State) : EffectFrame s (decByte v s).2 := EffectFrame.setFlags _ _ _ _ _
theorem rotate_effect (k : RotKind) (v : Byte) (s : State) : EffectFrame s (rotate k v s).2 :=
  EffectFrame.setFlags _ _ _ _ _
theorem testBit_effect (n : BitVec 3) (v : Byte) (s : State) : EffectFrame s (testBit n v s) :=
  EffectFrame.setFlags _ _ _ _ _
theorem clearBit_effect (n : BitVec 3) (v : Byte) (s : State) : EffectFrame s (clearBit n v s).2 := EffectFrame.refl _
theorem setBit_effect (n : BitVec 3) (v : Byte) (s : State) : EffectFrame s (setBit n v s).2 := EffectFrame.refl _
theorem rotateA_effect (k : RotKind) (s : State) : EffectFrame s (rotateA k s) := by
  dsimp only [rotateA, rotateAIn]
  exact EffectFrame.flagsThenReg _ _ _ _ _ _ _

theorem decimalAdjust_effect (s : State) : EffectFrame s (decimalAdjust s) := by
  dsimp only [decimalAdjust]
  exact EffectFrame.flagsThenReg _ _ _ _ _ _ _

/-! ### The operand forms -/

theorem fromReg_effect {update : Byte → State → State} {r : Reg8} {s t : State} (hu : ∀ v, EffectFrame s (update v s))
    (h : fromReg update r s = .next t) : EffectFrame s t := by
  cases h
  exact hu _

theorem fromImm_effect {update : Byte → State → State} {n : Byte} {s t : State} (hu : ∀ v, EffectFrame s (update v s))
    (h : fromImm update n s = .next t) : EffectFrame s t := by
  cases h
  exact hu _

theorem modifyReg_effect {change : Byte → State → Byte × State} {r : Reg8} {s t : State}
    (hc : ∀ v, EffectFrame s (change v s).2) (h : modifyReg change r s = .next t) : EffectFrame s t := by
  cases h
  exact (hc _).trans (EffectFrame.setReg _ _ _)

theorem storeMem_effect {addr : Word} {v : Byte} {s t : State} (h : storeMem addr v s = .next t) : EffectFrame s t :=
  memWrite_effect (storeMem_next.mp h)

theorem storeThenHl_effect {delta : Word} {s t : State} (h : storeThenHl delta s = .next t) : EffectFrame s t := by
  obtain ⟨u, hu, rfl⟩ := storeThenHl_next.mp h
  exact (memWrite_effect hu).trans (EffectFrame.setHl _ _)

theorem loadThenHl_effect {delta : Word} {s t : State} (h : loadThenHl delta s = .next t) : EffectFrame s t := by
  obtain ⟨v, _, rfl⟩ := loadThenHl_next.mp h
  exact (EffectFrame.setReg _ _ _).trans (EffectFrame.setHl _ _)

theorem storeSp_effect {nn : Word} {s t : State} (h : storeSp nn s = .next t) : EffectFrame s t := by
  obtain ⟨u, hu, ht⟩ := storeSp_next.mp h
  exact (memWrite_effect hu).trans (memWrite_effect ht)

theorem popInto_effect {p : StackPair} {s t : State} (h : popInto p s = .next t) : EffectFrame s t := by
  obtain ⟨w, u, hu, rfl⟩ := popInto_next.mp h
  exact (pop16_effect hu).trans (EffectFrame.setStackPair _ _ _)

theorem ifCond_effect {cc : Cond} {taken : State → Res Unit} {s t : State}
    (ht : taken s = .ok () t → EffectFrame s t) (h : ifCond cc taken s = .next t) : EffectFrame s t := by
  rcases ifCond_next.mp h with ⟨_, h⟩ | ⟨_, rfl⟩
  · exact ht h
  · apply EffectFrame.of_eq <;> rfl

/-- A change of CPU registers other than F. -/
theorem next_effect {s t u : State} (hu : EffectFrame s u) (h : (.next u : Step) = .next t) : EffectFrame s t := by
  cases h
  exact hu

/-! ### Every instruction -/

/-- The frame of one instruction. -/
def KeepsFrame (i : Instr) : Prop := ∀ s t : State, exec i s = .next t → EffectFrame s t

theorem load_effect : LoadForms KeepsFrame where
  ldRegReg r q s _ h := fromReg_effect (loadInto_effect r · s) (exec_ldRegReg r q s ▸ h)
  ldRegImm r n s _ h := fromImm_effect (loadInto_effect r · s) (exec_ldRegImm r n s ▸ h)
  ldRegAtHl r s _ h := fromMem_effect (loadInto_effect r · s) (exec_ldRegAtHl r s ▸ h)
  ldAtHlReg r s _ h := storeMem_effect (exec_ldAtHlReg r s ▸ h)
  ldAtHlImm n s _ h := storeMem_effect h
  ldAAtBc s _ h := fromMem_effect (loadInto_effect .a · s) h
  ldAAtDe s _ h := fromMem_effect (loadInto_effect .a · s) h
  ldAtBcA s _ h := storeMem_effect h
  ldAtDeA s _ h := storeMem_effect h
  ldAAtImm16 nn s _ h := fromMem_effect (loadInto_effect .a · s) h
  ldAtImm16A nn s _ h := storeMem_effect h
  ldhAAtImm n s _ h := fromMem_effect (loadInto_effect .a · s) h
  ldhAtImmA n s _ h := storeMem_effect h
  ldAAtC s _ h := fromMem_effect (loadInto_effect .a · s) h
  ldAtCA s _ h := storeMem_effect h
  ldAtHlIncA s _ h := storeThenHl_effect h
  ldAtHlDecA s _ h := storeThenHl_effect h
  ldAAtHlInc s _ h := loadThenHl_effect h
  ldAAtHlDec s _ h := loadThenHl_effect h
  ldPairImm16 p nn s _ h := next_effect (EffectFrame.setPair s p nn) (exec_ldPairImm16 p nn s ▸ h)
  ldAtImm16Sp nn s _ h := storeSp_effect h
  ldSpHl s _ h := next_effect (by apply EffectFrame.of_eq <;> rfl) h
  ldHlSpRel n s _ h := next_effect (EffectFrame.flagsThenHl s _ _ _ _ _) h
  pushPair p s _ h := push16_effect (Res.outcome_next.mp (exec_pushPair p s ▸ h))
  popPair p s _ h := popInto_effect (exec_popPair p s ▸ h)

theorem arithmetic_effect : ArithmeticForms KeepsFrame where
  aluReg op r s _ h := fromReg_effect (aluUpdate_effect op · s) (exec_aluReg op r s ▸ h)
  aluImm op n s _ h := fromImm_effect (aluUpdate_effect op · s) (exec_aluImm op n s ▸ h)
  aluAtHl op s _ h := fromMem_effect (aluUpdate_effect op · s) (exec_aluAtHl op s ▸ h)
  incReg r s _ h := modifyReg_effect (incByte_effect · s) (exec_incReg r s ▸ h)
  decReg r s _ h := modifyReg_effect (decByte_effect · s) (exec_decReg r s ▸ h)
  incAtHl s _ h := modifyAtHl_effect (incByte_effect · s) h
  decAtHl s _ h := modifyAtHl_effect (decByte_effect · s) h
  addHlPair p s _ h := next_effect (EffectFrame.flagsThenHl s _ _ _ _ _) (exec_addHlPair p s ▸ h)
  addSpRel n s t h :=
    next_effect ((EffectFrame.setFlags s _ _ _ _).trans (by apply EffectFrame.of_eq <;> rfl)) h
  incPair p s _ h := next_effect (EffectFrame.setPair s p _) (exec_incPair p s ▸ h)
  decPair p s _ h := next_effect (EffectFrame.setPair s p _) (exec_decPair p s ▸ h)
  rlca s _ h := next_effect (rotateA_effect .rlc s) h
  rrca s _ h := next_effect (rotateA_effect .rrc s) h
  rla s _ h := next_effect (rotateA_effect .rl s) h
  rra s _ h := next_effect (rotateA_effect .rr s) h
  daa s _ h := next_effect (decimalAdjust_effect s) h
  cpl s _ h := next_effect (EffectFrame.flagsThenReg s none (some true) (some true) none .a (s.a ^^^ 0xFF)) h
  scf s _ h := next_effect (EffectFrame.setFlags s _ _ _ _) h
  ccf s _ h := next_effect (EffectFrame.setFlags s _ _ _ _) h
  nop s _ h := next_effect (EffectFrame.refl s) h

theorem control_effect : ControlForms KeepsFrame where
  jpImm16 nn s _ h := next_effect (by apply EffectFrame.of_eq <;> rfl) h
  jpHl s _ h := next_effect (by apply EffectFrame.of_eq <;> rfl) h
  jrRel n s _ h := next_effect (by apply EffectFrame.of_eq <;> rfl) h
  jpCond cc nn s _ h := ifCond_effect (fun h => by cases h; apply EffectFrame.of_eq <;> rfl) (exec_jpCond cc nn s ▸ h)
  jrCond cc n s _ h := ifCond_effect (fun h => by cases h; apply EffectFrame.of_eq <;> rfl) (exec_jrCond cc n s ▸ h)
  callImm16 nn s _ h := call_effect (Res.outcome_next.mp h)
  callCond cc nn s _ h := ifCond_effect call_effect (exec_callCond cc nn s ▸ h)
  rstTo y s _ h := call_effect (Res.outcome_next.mp (exec_rstTo y s ▸ h))
  ret s _ h := ret_effect (Res.outcome_next.mp h)
  retCond cc s _ h := ifCond_effect ret_effect (exec_retCond cc s ▸ h)
  reti s _ h := by
    obtain ⟨_, u, hu, ht⟩ := Res.andThen_ok.mp (Res.outcome_next.mp h)
    cases ht
    exact (ret_effect hu).trans (by apply EffectFrame.of_eq <;> rfl)
  halt s _ h := next_effect (by apply EffectFrame.of_eq <;> rfl) h
  stop n s _ h := next_effect (by apply EffectFrame.of_eq <;> rfl) h
  di s _ h := next_effect (by apply EffectFrame.of_eq <;> rfl) h
  ei s _ h := next_effect (by apply EffectFrame.of_eq <;> rfl) h
  unassigned op i hrow s _ h := by
    simp only [Safety.unassignedRows, List.mem_cons, Prod.mk.injEq, List.not_mem_nil, or_false] at hrow
    rcases hrow with ⟨_, rfl⟩ | ⟨_, rfl⟩ | ⟨_, rfl⟩ | ⟨_, rfl⟩ | ⟨_, rfl⟩ | ⟨_, rfl⟩ | ⟨_, rfl⟩ | ⟨_, rfl⟩ | ⟨_, rfl⟩ |
      ⟨_, rfl⟩ | ⟨_, rfl⟩ <;> cases h

theorem cb_effect : CbForms KeepsFrame where
  rotReg k r s _ h := modifyReg_effect (rotate_effect k · s) (exec_rotReg k r s ▸ h)
  rotAtHl k s _ h := modifyAtHl_effect (rotate_effect k · s) (exec_rotAtHl k s ▸ h)
  bitReg n r s _ h := fromReg_effect (testBit_effect n · s) (exec_bitReg n r s ▸ h)
  bitAtHl n s _ h := fromMem_effect (testBit_effect n · s) (exec_bitAtHl n s ▸ h)
  resReg n r s _ h := modifyReg_effect (clearBit_effect n · s) (exec_resReg n r s ▸ h)
  resAtHl n s _ h := modifyAtHl_effect (clearBit_effect n · s) (exec_resAtHl n s ▸ h)
  setReg n r s _ h := modifyReg_effect (setBit_effect n · s) (exec_setReg n r s ▸ h)
  setAtHl n s _ h := modifyAtHl_effect (setBit_effect n · s) (exec_setAtHl n s ▸ h)

/-- No instruction's effect touches the clocks, the fault record, the images or the GPU's position and frame (R125). -/
theorem exec_effect {i : Instr} {s t : State} (h : exec i s = .next t) : EffectFrame s t :=
  Instr.of_forms (P := KeepsFrame) load_effect arithmetic_effect control_effect cb_effect i s t h

end Sys2Proof.Machine
end

