-- ==== Sys2Proof/Tests/Slice0.lean ====
section
/-! SUPPORT. Tests: the well-formedness checks, every row's word, single steps from the spec's vectors (95_test_vectors.md), and
for every statement with hypotheses a witness that something meets them, each clause at a boundary of its range. -/

namespace Sys2Proof.Tests

open Sys2Proof Sys2Proof.Machine Sys2Proof.Safety

/-! ### The states the vectors start from -/

/-- Reset, with an instruction in WRAM at 0xC000 and PC there (95_test_vectors.md, conventions). -/
def start (bytes : List Byte) : State :=
  { State.reset with pc := 0xC000, mem := Memory.writeList [] 0xC000 bytes }

/-- The same with HL at an address. -/
def startHl (bytes : List Byte) (hl : Word) : State := (start bytes).setHl hl

/-- A state with a byte of memory set. -/
def withByte (s : State) (a : Nat) (v : Byte) : State := { s with mem := Memory.write s.mem a v }

/-- A byte of memory. -/
def byteAt (t : State) (a : Nat) : Byte := Memory.read t.mem a

/-- What one step leaves, seen through `get`; none where there is no next state. -/
def gives {α : Type} (s : State) (get : State → α) : Option α :=
  match step s with
  | .next t => some (get t)
  | .fault _ => none
  | .refused _ => none

/-- The fault one step raises, and what it leaves, seen through `get`. -/
def raises {α : Type} (s : State) (get : State → α) : Option (FaultRecord × α) :=
  match step s with
  | .fault (.raised record left) => some (record, get left)
  | .fault _ => none
  | .next _ => none
  | .refused _ => none

/-- PC and the two clocks. -/
def times (t : State) : Word × Nat × Nat := (t.pc, t.mClock, t.tClock)

/-! ### Well-formedness (R98, R100) -/

theorem test_unassigned_byte_is_ill_formed :
    Instr.wellFormed .undefinedD3 = false ∧ Instr.wellFormed .undefinedFD = false ∧ Instr.wellFormed .ldBA = true := by decide

/-- A base row outside `IMPL_BASE` is refused. -/
theorem test_base_set_is_checked : Instr.wellFormedIn { implSets with base := fun op => op != 0x47 } .ldBA = false := by decide

/-- A CB row outside `IMPL_CB` is refused, whatever the base set says of its first byte. -/
theorem test_cb_set_is_checked :
    Instr.wellFormedIn { implSets with cb := fun op2 => op2 != 0x30 } .swapB = false ∧
      Instr.wellFormedIn { implSets with base := fun _ => false } .swapB = true := by decide

/-- Bytes that decode to nothing: none at all, an unassigned byte, an operand missing, a CB opcode missing. -/
theorem test_decode_refuses :
    decode [] = .error .truncated ∧ decode [0x06] = .error .truncated ∧ decode [0xC3, 0x00] = .error .truncated ∧
      decode [0xCB] = .error .truncated := by
  exact ⟨rfl, rfl, rfl, rfl⟩

/-! ### Every row's word, by the opcode table -/

/-- What the word with this first byte decodes to, its operand bytes 0x34 and 0x12 where it has any. -/
def baseWord (op : Nat) : Option Instr :=
  match decode [BitVec.ofNat 8 op, 0x34, 0x12] with
  | .ok (i, _) => if op = 0xCB then none else some i
  | .error _ => none

/-- What the word 0xCB and this byte decodes to. -/
def cbWord (op2 : Nat) : Option Instr :=
  match decode [0xCB, BitVec.ofNat 8 op2] with
  | .ok (i, _) => some i
  | .error _ => none

theorem test_base_words_00_to_3F : (List.range' 0 64).map baseWord =
    [some .nop, some (.ldBcImm16 0x1234), some .ldAtBcA, some .incBc, some .incB, some .decB, some (.ldBImm 0x34),
      some .rlca, some (.ldAtImm16Sp 0x1234), some .addHlBc, some .ldAAtBc, some .decBc, some .incC, some .decC,
      some (.ldCImm 0x34), some .rrca, some (.stop 0x34), some (.ldDeImm16 0x1234), some .ldAtDeA, some .incDe,
      some .incD, some .decD, some (.ldDImm 0x34), some .rla, some (.jrRel 0x34), some .addHlDe, some .ldAAtDe,
      some .decDe, some .incE, some .decE, some (.ldEImm 0x34), some .rra, some (.jrNzRel 0x34),
      some (.ldHlImm16 0x1234), some .ldAtHlIncA, some .incHl, some .incH, some .decH, some (.ldHImm 0x34),
      some .daa, some (.jrZRel 0x34), some .addHlHl, some .ldAAtHlInc, some .decHl, some .incL, some .decL,
      some (.ldLImm 0x34), some .cpl, some (.jrNcRel 0x34), some (.ldSpImm16 0x1234), some .ldAtHlDecA, some .incSp,
      some .incAtHl, some .decAtHl, some (.ldAtHlImm 0x34), some .scf, some (.jrCRel 0x34), some .addHlSp,
      some .ldAAtHlDec, some .decSp, some .incA, some .decA, some (.ldAImm 0x34), some .ccf] := by
  rfl

theorem test_base_words_40_to_7F : (List.range' 64 64).map baseWord =
    [some .ldBB, some .ldBC, some .ldBD, some .ldBE, some .ldBH, some .ldBL, some .ldBAtHl, some .ldBA, some .ldCB,
      some .ldCC, some .ldCD, some .ldCE, some .ldCH, some .ldCL, some .ldCAtHl, some .ldCA, some .ldDB, some .ldDC,
      some .ldDD, some .ldDE, some .ldDH, some .ldDL, some .ldDAtHl, some .ldDA, some .ldEB, some .ldEC, some .ldED,
      some .ldEE, some .ldEH, some .ldEL, some .ldEAtHl, some .ldEA, some .ldHB, some .ldHC, some .ldHD, some .ldHE,
      some .ldHH, some .ldHL, some .ldHAtHl, some .ldHA, some .ldLB, some .ldLC, some .ldLD, some .ldLE, some .ldLH,
      some .ldLL, some .ldLAtHl, some .ldLA, some .ldAtHlB, some .ldAtHlC, some .ldAtHlD, some .ldAtHlE,
      some .ldAtHlH, some .ldAtHlL, some .halt, some .ldAtHlA, some .ldAB, some .ldAC, some .ldAD, some .ldAE,
      some .ldAH, some .ldAL, some .ldAAtHl, some .ldAA] := by
  rfl

theorem test_base_words_80_to_BF : (List.range' 128 64).map baseWord =
    [some .addAB, some .addAC, some .addAD, some .addAE, some .addAH, some .addAL, some .addAAtHl, some .addAA,
      some .adcAB, some .adcAC, some .adcAD, some .adcAE, some .adcAH, some .adcAL, some .adcAAtHl, some .adcAA,
      some .subAB, some .subAC, some .subAD, some .subAE, some .subAH, some .subAL, some .subAAtHl, some .subAA,
      some .sbcAB, some .sbcAC, some .sbcAD, some .sbcAE, some .sbcAH, some .sbcAL, some .sbcAAtHl, some .sbcAA,
      some .andAB, some .andAC, some .andAD, some .andAE, some .andAH, some .andAL, some .andAAtHl, some .andAA,
      some .xorAB, some .xorAC, some .xorAD, some .xorAE, some .xorAH, some .xorAL, some .xorAAtHl, some .xorAA,
      some .orAB, some .orAC, some .orAD, some .orAE, some .orAH, some .orAL, some .orAAtHl, some .orAA, some .cpAB,
      some .cpAC, some .cpAD, some .cpAE, some .cpAH, some .cpAL, some .cpAAtHl, some .cpAA] := by
  rfl

theorem test_base_words_C0_to_FF : (List.range' 192 64).map baseWord =
    [some .retNz, some .popBc, some (.jpNzImm16 0x1234), some (.jpImm16 0x1234), some (.callNzImm16 0x1234),
      some .pushBc, some (.addAImm 0x34), some .rst00, some .retZ, some .ret, some (.jpZImm16 0x1234), none,
      some (.callZImm16 0x1234), some (.callImm16 0x1234), some (.adcAImm 0x34), some .rst08, some .retNc,
      some .popDe, some (.jpNcImm16 0x1234), some .undefinedD3, some (.callNcImm16 0x1234), some .pushDe,
      some (.subAImm 0x34), some .rst10, some .retC, some .reti, some (.jpCImm16 0x1234), some .undefinedDB,
      some (.callCImm16 0x1234), some .undefinedDD, some (.sbcAImm 0x34), some .rst18, some (.ldhAtImmA 0x34),
      some .popHl, some .ldAtCA, some .undefinedE3, some .undefinedE4, some .pushHl, some (.andAImm 0x34),
      some .rst20, some (.addSpRel 0x34), some .jpHl, some (.ldAtImm16A 0x1234), some .undefinedEB,
      some .undefinedEC, some .undefinedED, some (.xorAImm 0x34), some .rst28, some (.ldhAAtImm 0x34), some .popAf,
      some .ldAAtC, some .di, some .undefinedF4, some .pushAf, some (.orAImm 0x34), some .rst30,
      some (.ldHlSpRel 0x34), some .ldSpHl, some (.ldAAtImm16 0x1234), some .ei, some .undefinedFC,
      some .undefinedFD, some (.cpAImm 0x34), some .rst38] := by
  rfl

theorem test_cb_words_00_to_3F : (List.range' 0 64).map cbWord = List.map some
    [.rlcB, .rlcC, .rlcD, .rlcE, .rlcH, .rlcL, .rlcAtHl, .rlcA, .rrcB, .rrcC, .rrcD, .rrcE, .rrcH, .rrcL, .rrcAtHl,
      .rrcA, .rlB, .rlC, .rlD, .rlE, .rlH, .rlL, .rlAtHl, .rlA, .rrB, .rrC, .rrD, .rrE, .rrH, .rrL, .rrAtHl, .rrA,
      .slaB, .slaC, .slaD, .slaE, .slaH, .slaL, .slaAtHl, .slaA, .sraB, .sraC, .sraD, .sraE, .sraH, .sraL, .sraAtHl,
      .sraA, .swapB, .swapC, .swapD, .swapE, .swapH, .swapL, .swapAtHl, .swapA, .srlB, .srlC, .srlD, .srlE, .srlH,
      .srlL, .srlAtHl, .srlA] := by
  rfl

theorem test_cb_words_40_to_7F : (List.range' 64 64).map cbWord = List.map some
    [.bit0B, .bit0C, .bit0D, .bit0E, .bit0H, .bit0L, .bit0AtHl, .bit0A, .bit1B, .bit1C, .bit1D, .bit1E, .bit1H,
      .bit1L, .bit1AtHl, .bit1A, .bit2B, .bit2C, .bit2D, .bit2E, .bit2H, .bit2L, .bit2AtHl, .bit2A, .bit3B, .bit3C,
      .bit3D, .bit3E, .bit3H, .bit3L, .bit3AtHl, .bit3A, .bit4B, .bit4C, .bit4D, .bit4E, .bit4H, .bit4L, .bit4AtHl,
      .bit4A, .bit5B, .bit5C, .bit5D, .bit5E, .bit5H, .bit5L, .bit5AtHl, .bit5A, .bit6B, .bit6C, .bit6D, .bit6E,
      .bit6H, .bit6L, .bit6AtHl, .bit6A, .bit7B, .bit7C, .bit7D, .bit7E, .bit7H, .bit7L, .bit7AtHl, .bit7A] := by
  rfl

theorem test_cb_words_80_to_BF : (List.range' 128 64).map cbWord = List.map some
    [.res0B, .res0C, .res0D, .res0E, .res0H, .res0L, .res0AtHl, .res0A, .res1B, .res1C, .res1D, .res1E, .res1H,
      .res1L, .res1AtHl, .res1A, .res2B, .res2C, .res2D, .res2E, .res2H, .res2L, .res2AtHl, .res2A, .res3B, .res3C,
      .res3D, .res3E, .res3H, .res3L, .res3AtHl, .res3A, .res4B, .res4C, .res4D, .res4E, .res4H, .res4L, .res4AtHl,
      .res4A, .res5B, .res5C, .res5D, .res5E, .res5H, .res5L, .res5AtHl, .res5A, .res6B, .res6C, .res6D, .res6E,
      .res6H, .res6L, .res6AtHl, .res6A, .res7B, .res7C, .res7D, .res7E, .res7H, .res7L, .res7AtHl, .res7A] := by
  rfl

theorem test_cb_words_C0_to_FF : (List.range' 192 64).map cbWord = List.map some
    [.set0B, .set0C, .set0D, .set0E, .set0H, .set0L, .set0AtHl, .set0A, .set1B, .set1C, .set1D, .set1E, .set1H,
      .set1L, .set1AtHl, .set1A, .set2B, .set2C, .set2D, .set2E, .set2H, .set2L, .set2AtHl, .set2A, .set3B, .set3C,
      .set3D, .set3E, .set3H, .set3L, .set3AtHl, .set3A, .set4B, .set4C, .set4D, .set4E, .set4H, .set4L, .set4AtHl,
      .set4A, .set5B, .set5C, .set5D, .set5E, .set5H, .set5L, .set5AtHl, .set5A, .set6B, .set6C, .set6D, .set6E,
      .set6H, .set6L, .set6AtHl, .set6A, .set7B, .set7C, .set7D, .set7E, .set7H, .set7L, .set7AtHl, .set7A] := by
  rfl
/-! ### 8-bit arithmetic and logic (95_test_vectors.md, 2.1 and 2.2) -/

/-- A and F after one instruction on A, B and F. -/
def alu (op a b f : Byte) : Option (Byte × Byte) := gives { start [op] with a := a, b := b, f := f } fun t => (t.a, t.f)

theorem test_add : alu 0x80 0x3A 0xC6 0x00 = some (0x00, 0xB0) ∧ alu 0x80 0x08 0x08 0x00 = some (0x10, 0x00) ∧
    alu 0x80 0x00 0x00 0x10 = some (0x00, 0x80) := by decide
theorem test_adc : alu 0x88 0x03 0x04 0x10 = some (0x08, 0x20) ∧ alu 0x88 0xFF 0xFF 0x10 = some (0xFF, 0x30) := by decide
theorem test_sub : alu 0x90 0x00 0x01 0x00 = some (0xFF, 0x40) ∧ alu 0x90 0x3E 0x3E 0x00 = some (0x00, 0xE0) ∧
    alu 0x90 0x0F 0x10 0x00 = some (0xFF, 0x60) ∧ alu 0x90 0x7F 0xFF 0x00 = some (0x80, 0x60) := by decide
theorem test_sbc : alu 0x98 0xFF 0xFF 0x10 = some (0xFF, 0x70) ∧ alu 0x98 0x98 0x08 0x10 = some (0x8F, 0x60) := by decide
theorem test_and : alu 0xA0 0x5A 0x3F 0x10 = some (0x1A, 0x20) ∧ alu 0xA0 0xF0 0x0F 0x00 = some (0x00, 0xA0) := by decide
theorem test_xor : alu 0xA8 0xFF 0x0F 0x10 = some (0xF0, 0x00) ∧ alu 0xA8 0x55 0x55 0x10 = some (0x00, 0x80) := by decide
theorem test_or : alu 0xB0 0x00 0x00 0x10 = some (0x00, 0x80) ∧ alu 0xB0 0x5A 0x03 0x00 = some (0x5B, 0x00) := by decide
theorem test_cp : alu 0xB8 0x3C 0x2F 0x00 = some (0x3C, 0x60) ∧ alu 0xB8 0x3C 0x40 0x00 = some (0x3C, 0x60) ∧
    alu 0xB8 0x90 0xA0 0x00 = some (0x90, 0x50) := by decide
theorem test_same_register_twice : alu 0x87 0x88 0x00 0x00 = some (0x10, 0x10) ∧ alu 0x9F 0x08 0x00 0x10 = some (0xFF, 0x60) ∧
    alu 0x9F 0x77 0x00 0x10 = some (0xFF, 0x40) ∧ alu 0xBF 0x99 0x00 0x00 = some (0x99, 0xE0) := by decide
theorem test_alu_immediate :
    gives { start [0xDE, 0x01] with a := 0x80, f := 0x10 } (fun t => (t.a, t.f, times t)) =
      some (0x7E, 0x40, 0xC002, 8, 2) ∧
    gives { start [0xFE, 0x90] with a := 0x90 } (fun t => (t.a, t.f, t.pc)) = some (0x90, 0xC0, 0xC002) := by decide
theorem test_alu_at_hl :
    gives { withByte (startHl [0x86] 0xD000) 0xD000 0x07 with a := 0x01 } (fun t => (t.a, t.f, times t)) =
      some (0x08, 0x20, 0xC001, 8, 2) ∧
    raises { startHl [0x96] 0xFF03 with a := 0x88 } (fun t => (t.a, times t)) =
      some (.memoryAccess 0xFF03 none, 0x88, 0xC001, 0, 0) := by decide

/-- B and F after one instruction on B and F. -/
def onB (bytes : List Byte) (b f : Byte) : Option (Byte × Byte) :=
  gives { start bytes with b := b, f := f } fun t => (t.b, t.f)

theorem test_inc : onB [0x04] 0x07 0x00 = some (0x08, 0x20) ∧ onB [0x04] 0xFF 0x10 = some (0x00, 0xB0) ∧
    onB [0x04] 0x00 0xF0 = some (0x01, 0x10) := by decide
theorem test_dec : onB [0x05] 0x10 0x00 = some (0x0F, 0x40) ∧ onB [0x05] 0x80 0xB0 = some (0x7F, 0x50) ∧
    onB [0x05] 0x01 0x00 = some (0x00, 0xC0) := by decide
theorem test_inc_at_hl :
    gives { withByte (startHl [0x34] 0xD000) 0xD000 0xFF with f := 0x10 } (fun t => (byteAt t 0xD000, t.f, times t)) =
      some (0x00, 0xB0, 0xC001, 12, 3) ∧
    gives (startHl [0x34] 0x1234) (fun t => (byteAt t 0x1234, t.f, t.mClock)) = some (0x00, 0x00, 12) := by decide
theorem test_dec_at_hl :
    gives { withByte (startHl [0x35] 0xD000) 0xD000 0x01 with f := 0x10 } (fun t => (byteAt t 0xD000, t.f)) =
      some (0x00, 0xD0) := by decide

/-! ### 16-bit arithmetic, accumulator rotates, DAA and the rest (2.3 to 2.5) -/

theorem test_add_hl :
    gives { startHl [0x19] 0x8A23 with d := 0x06, e := 0x05, f := 0x80 } (fun t => (t.hl, t.f, t.mClock)) =
      some (0x9028, 0xA0, 8) ∧
    gives { startHl [0x19] 0xFFFF with e := 0x01 } (fun t => (t.hl, t.f)) = some (0x0000, 0x30) ∧
    gives (startHl [0x29] 0x8800) (fun t => (t.hl, t.f)) = some (0x1000, 0x30) ∧
    gives { startHl [0x39] 0x0FFF with sp := 0x0001 } (fun t => (t.hl, t.f)) = some (0x1000, 0x20) := by decide
theorem test_inc_dec_pair :
    gives { start [0x03] with b := 0xFF, c := 0xFF, f := 0xF0 } (fun t => (t.bc, t.f, t.mClock)) =
      some (0x0000, 0xF0, 8) ∧
    gives (start [0x0B]) (fun t => (t.bc, t.f)) = some (0xFFFF, 0x00) ∧
    gives { start [0x33] with sp := 0xFFFF } (fun t => t.sp) = some 0x0000 ∧
    gives (startHl [0x23] 0x00FF) (fun t => t.hl) = some 0x0100 := by decide
theorem test_sp_plus_displacement :
    gives { start [0xE8, 0x08] with sp := 0xFFF8, f := 0xF0 } (fun t => (t.sp, t.f, t.mClock)) =
      some (0x0000, 0x10, 16) ∧
    gives { start [0xE8, 0x80] with sp := 0xD000 } (fun t => (t.sp, t.f)) = some (0xCF80, 0x00) ∧
    gives { start [0xF8, 0x01] with sp := 0x0007 } (fun t => (t.hl, t.sp, t.f, t.mClock)) =
      some (0x0008, 0x0007, 0x20, 12) := by decide
theorem test_rotate_accumulator :
    alu 0x07 0x85 0x00 0x00 = some (0x0B, 0x10) ∧ alu 0x0F 0x85 0x00 0x00 = some (0xC2, 0x10) ∧
    alu 0x17 0x80 0x00 0x00 = some (0x00, 0x10) ∧ alu 0x1F 0x00 0x00 0xF0 = some (0x80, 0x00) := by decide
theorem test_daa :
    alu 0x27 0x7D 0x00 0x00 = some (0x83, 0x00) ∧ alu 0x27 0x9A 0x00 0x00 = some (0x00, 0x90) ∧
    alu 0x27 0x0F 0x00 0x40 = some (0x0F, 0x40) ∧ alu 0x27 0x66 0x00 0x70 = some (0x00, 0xD0) := by decide
theorem test_cpl_scf_ccf :
    alu 0x2F 0xFF 0x00 0x80 = some (0x00, 0xE0) ∧ alu 0x37 0x00 0x00 0xF0 = some (0x00, 0x90) ∧
    alu 0x3F 0x00 0x00 0xF0 = some (0x00, 0x80) ∧ alu 0x3F 0x00 0x00 0x00 = some (0x00, 0x10) := by decide

/-! ### CB-prefixed instructions (2.6 and 2.7) -/

theorem test_cb_rotates :
    onB [0xCB, 0x00] 0xF1 0x10 = some (0xE3, 0x10) ∧ onB [0xCB, 0x08] 0xF1 0x10 = some (0xF8, 0x10) ∧
    onB [0xCB, 0x10] 0x80 0x00 = some (0x00, 0x90) ∧ onB [0xCB, 0x18] 0x01 0x10 = some (0x80, 0x10) := by decide
theorem test_cb_shifts :
    onB [0xCB, 0x20] 0xF1 0x10 = some (0xE2, 0x10) ∧ onB [0xCB, 0x28] 0x80 0x00 = some (0xC0, 0x00) ∧
    onB [0xCB, 0x30] 0xF1 0x10 = some (0x1F, 0x00) ∧ onB [0xCB, 0x38] 0x01 0x10 = some (0x00, 0x90) := by decide
theorem test_cb_at_hl :
    gives (withByte (startHl [0xCB, 0x06] 0xD000) 0xD000 0x80) (fun t => (byteAt t 0xD000, t.f, times t)) =
      some (0x01, 0x10, 0xC002, 16, 4) ∧
    gives { startHl [0xCB, 0x1E] 0x0100 with f := 0x10 } (fun t => (byteAt t 0x0100, t.f, t.mClock)) =
      some (0x00, 0x00, 16) := by decide
/-- The bit index counts from the most significant bit (R314). -/
theorem test_bit :
    gives { start [0xCB, 0x47] with a := 0x80, f := 0x10 } (fun t => t.f) = some 0x30 ∧
    gives { start [0xCB, 0x7F] with a := 0x80, f := 0x10 } (fun t => t.f) = some 0xB0 ∧
    gives (startHl [0xCB, 0x7C] 0x8000) (fun t => t.f) = some 0xA0 ∧
    gives { withByte (startHl [0xCB, 0x46] 0xD000) 0xD000 0x7F with f := 0x10 } (fun t => (t.f, t.mClock)) =
      some (0xB0, 12) := by decide
theorem test_res_set :
    gives { start [0xCB, 0x87] with a := 0xFF, f := 0xF0 } (fun t => (t.a, t.f)) = some (0x7F, 0xF0) ∧
    gives (start [0xCB, 0xFF]) (fun t => (t.a, t.f)) = some (0x01, 0x00) ∧
    gives (withByte (startHl [0xCB, 0x9E] 0xD000) 0xD000 0xFF) (fun t => (byteAt t 0xD000, t.mClock)) = some (0xEF, 16) ∧
    raises (startHl [0xCB, 0xC6] 0xFF10) times = some (.memoryAccess 0xFF10 none, 0xC002, 0, 0) := by decide
/-- A second byte 0xCB is data, not an escape (R92). -/
theorem test_cb_cb_is_set_1_e : gives (start [0xCB, 0xCB]) (fun t => (t.e, times t)) = some (0x40, 0xC002, 8, 2) := by decide

/-! ### Loads, stores and the stack (2.8 and 2.9) -/

theorem test_ld_register :
    gives { start [0x41] with b := 0x11, c := 0x99 } (fun t => (t.b, t.c, times t)) = some (0x99, 0x99, 0xC001, 4, 1) ∧
    gives (start [0x06, 0x42]) (fun t => (t.b, times t)) = some (0x42, 0xC002, 8, 2) := by decide
theorem test_ld_hl_forms :
    gives (withByte (startHl [0x66] 0xD000) 0xD000 0xAB) (fun t => (t.h, t.l)) = some (0xAB, 0x00) ∧
    gives (startHl [0x74] 0xD0D0) (fun t => byteAt t 0xD0D0) = some 0xD0 ∧
    gives (startHl [0x36, 0x5A] 0xD123) (fun t => (byteAt t 0xD123, times t)) = some (0x5A, 0xC002, 12, 3) := by decide
theorem test_ld_hl_moving :
    gives { startHl [0x22] 0xDFFF with a := 0x11 } (fun t => (byteAt t 0xDFFF, t.hl)) = some (0x11, 0xE000) ∧
    gives (withByte (startHl [0x2A] 0xFFFF) 0xFFFF 0x9C) (fun t => (t.a, t.hl)) = some (0x9C, 0x0000) ∧
    gives { startHl [0x32] 0x0000 with a := 0x11 } (fun t => (byteAt t 0x0000, t.hl)) = some (0x00, 0xFFFF) ∧
    gives (withByte (startHl [0x3A] 0xC100) 0xC100 0x44) (fun t => (t.a, t.hl)) = some (0x44, 0xC0FF) := by decide
theorem test_ld_pairs_and_addresses :
    gives { start [0x02] with b := 0xC2, a := 0x21 } (fun t => byteAt t 0xC200) = some 0x21 ∧
    gives { withByte (start [0x1A]) 0xC010 0x66 with d := 0xE0, e := 0x10 } (fun t => t.a) = some 0x66 ∧
    gives { start [0xEA, 0x00, 0xD0] with a := 0x99 } (fun t => (byteAt t 0xD000, times t)) =
      some (0x99, 0xC003, 16, 4) ∧
    raises { start [0xFA, 0x0F, 0xFF] with a := 0x55 } (fun t => (t.a, times t)) =
      some (.memoryAccess 0xFF0F none, 0x55, 0xC003, 0, 0) := by decide
theorem test_ldh :
    gives { start [0xE0, 0x01] with a := 0x48 } (fun t => (t.serialOut, times t)) = some ([0x48], 0xC002, 12, 3) ∧
    gives { start [0xF0, 0x41] with a := 0x55 } (fun t => t.a) = some 0x02 ∧
    gives { start [0xE2] with c := 0x47, a := 0xE4 } (fun t => (t.gpu.backgroundPalette, t.mClock)) = some (0xE4, 8) ∧
    gives { withByte (start [0xF2]) 0xFF80 0x21 with c := 0x80 } (fun t => t.a) = some 0x21 := by decide
theorem test_ld_16 :
    gives (start [0x31, 0xFE, 0xFF]) (fun t => (t.sp, times t)) = some (0xFFFE, 0xC003, 12, 3) ∧
    gives (start [0x21, 0x00, 0xC0]) (fun t => (t.h, t.l)) = some (0xC0, 0x00) ∧
    gives { start [0x08, 0x00, 0xC1] with sp := 0xFFF8 } (fun t => (byteAt t 0xC100, byteAt t 0xC101, t.mClock)) =
      some (0xF8, 0xFF, 20) ∧
    gives (startHl [0xF9] 0xD123) (fun t => t.sp) = some 0xD123 := by decide
theorem test_push :
    gives { start [0xC5] with b := 0x12, c := 0x34, sp := 0xD002 }
      (fun t => (byteAt t 0xD001, byteAt t 0xD000, t.sp, t.mClock)) = some (0x12, 0x34, 0xD000, 16) ∧
    gives { start [0xF5] with a := 0x12, f := 0xB0, sp := 0x0001 } (fun t => (byteAt t 0x0000, byteAt t 0xFFFF, t.sp)) =
      some (0x00, 0xB0, 0xFFFF) ∧
    raises { start [0xC5] with sp := 0xFF80 } (fun t => (t.sp, times t)) =
      some (.memoryAccess 0xFF7F none, 0xFF7F, 0xC001, 0, 0) := by decide
theorem test_pop :
    gives { withByte (withByte (start [0xF1]) 0xD000 0xFF) 0xD001 0x12 with sp := 0xD000 } (fun t => (t.a, t.f, t.sp)) =
      some (0x12, 0xF0, 0xD002) ∧
    gives { withByte (start [0xE1]) 0xFFFF 0xCD with sp := 0xFFFF } (fun t => (t.h, t.l, t.sp)) =
      some (0x00, 0xCD, 0x0001) := by decide

/-! ### Control transfer (2.10) and the system instructions (2.11) -/

theorem test_jumps :
    gives (start [0xC3, 0x50, 0x01]) times = some (0x0150, 16, 4) ∧ gives (startHl [0xE9] 0xFF03) times = some (0xFF03, 4, 1) ∧
    gives (start [0x18, 0xFE]) times = some (0xC000, 12, 3) ∧ gives (start [0x18, 0x80]) times = some (0xBF82, 12, 3) := by decide
theorem test_conditional_jumps :
    gives (start [0xCA, 0x00, 0xD0]) (fun t => (times t, t.notTaken)) = some ((0xC003, 12, 3), false) ∧
    gives { start [0xCA, 0x00, 0xD0] with f := 0x80 } times = some (0xD000, 16, 4) ∧
    gives { start [0x30, 0x10] with f := 0x10 } times = some (0xC002, 8, 2) ∧
    gives { start [0x38, 0x10] with f := 0x10 } times = some (0xC012, 12, 3) := by decide
theorem test_calls :
    gives { start [0xCD, 0x00, 0xD0] with sp := 0xDFFF } (fun t => (byteAt t 0xDFFE, byteAt t 0xDFFD)) = some (0xC0, 0x03) ∧
    gives { start [0xCD, 0x00, 0xD0] with sp := 0xDFFF } (fun t => (t.sp, times t)) = some (0xDFFD, 0xD000, 24, 6) ∧
    gives { start [0xDC, 0x00, 0xD0] with sp := 0xDFFF } (fun t => (t.sp, times t)) = some (0xDFFF, 0xC003, 12, 3) ∧
    gives { start [0xEF] with sp := 0xE000 } (fun t => (byteAt t 0xDFFE, t.sp, times t)) =
      some (0x01, 0xDFFE, 0x0028, 16, 4) := by decide

/-- The stack of the return vectors. -/
def startReturn (bytes : List Byte) : State :=
  { withByte (withByte (start bytes) 0xDFFD 0x03) 0xDFFE 0xC0 with sp := 0xDFFD }

theorem test_returns :
    gives (startReturn [0xC9]) (fun t => (t.sp, times t)) = some (0xDFFF, 0xC003, 16, 4) ∧
    gives (startReturn [0xC0]) (fun t => (t.sp, times t)) = some (0xDFFF, 0xC003, 20, 5) ∧
    gives { startReturn [0xC0] with f := 0x80 } (fun t => (t.sp, times t)) = some (0xDFFD, 0xC001, 8, 2) ∧
    gives (startReturn [0xD9]) (fun t => (t.sp, t.ime, times t)) = some (0xDFFF, true, 0xC003, 16, 4) := by decide
theorem test_halt_and_stop :
    gives (start [0x76]) (fun t => (t.halted, times t)) = some (true, 0xC001, 4, 1) ∧
    gives (start [0x10, 0x55]) (fun t => (t.halted, times t)) = some (true, 0xC002, 4, 1) := by decide
theorem test_ei_di :
    gives (start [0xFB]) (fun t => (t.ime, t.mClock)) = some (true, 4) ∧
    gives { start [0xF3] with ime := true } (fun t => (t.ime, t.mClock)) = some (false, 4) := by decide
theorem test_unassigned_byte_faults :
    raises (start [0xED]) times = some (.instructionNotImplemented 0xED 0xC000, 0xC001, 0, 0) := by decide

/-! ### Fetch corners, the bus, loading and the GPU (2.12 to 2.14, part 3) -/

/-- A fetch that raises leaves PC on the byte; an immediate is fetched past 0xFFFF from 0x0000. -/
theorem test_fetch_corners :
    raises { State.reset with pc := 0xFF03 } times = some (.memoryAccess 0xFF03 none, 0xFF03, 0, 0) ∧
    gives { State.reset with pc := 0xFEFF } times = some (0xFF00, 4, 1) ∧
    gives { withByte State.reset 0xFFFF 0x3E with pc := 0xFFFF } times = some (0x0001, 8, 2) := by decide

/-- The vector S4: one step over an all-zero bootstrap. -/
theorem test_first_step :
    gives State.reset (fun t => (times t, t.gpu.modeClock, t.gpu.mode, t.gpu.line)) = some ((1, 4, 1), 1, .oamScan, 0) := by
  decide

/-- The byte a bus read gives, after a list of bus writes. -/
def readAfter (writes : List (Word × Byte)) (s : State) (addr : Word) : Option Byte :=
  match writes with
  | [] => (memRead s addr).toOption
  | (a, v) :: rest =>
    match memWrite s a v with
    | .ok t => readAfter rest t addr
    | .error _ => none

theorem test_bus_ram :
    readAfter [(0xE000, 0x5A)] State.reset 0xC000 = some 0x5A ∧ readAfter [(0xC001, 0xA5)] State.reset 0xE001 = some 0xA5 ∧
    readAfter [(0xFDFF, 0x77)] State.reset 0xDDFF = some 0x77 ∧ readAfter [(0xFE9F, 0x31)] State.reset 0xFE9F = some 0x31 ∧
    readAfter [(0x9FFF, 0x32)] State.reset 0x9FFF = some 0x32 ∧ readAfter [(0xBFFF, 0x33)] State.reset 0xBFFF = some 0x33 ∧
    readAfter [(0xFF80, 0x35)] State.reset 0xFF80 = some 0x35 := by decide
theorem test_bus_io :
    readAfter [(0xFEA0, 0x12)] State.reset 0xFEA0 = some 0x00 ∧ readAfter [(0xFF00, 0xFF)] State.reset 0xFF00 = some 0x00 ∧
    readAfter [(0x7FFF, 0x99)] State.reset 0x7FFF = some 0x00 ∧ readAfter [(0xFF40, 0x91)] State.reset 0xFF40 = some 0x91 ∧
    readAfter [(0xFF41, 0xFF)] State.reset 0xFF41 = some 0x02 ∧ readAfter [(0xFF44, 0x99)] State.reset 0xFF44 = some 0x00 ∧
    readAfter [] State.reset 0xFF01 = none ∧ readAfter [] State.reset 0xFF3F = none ∧ readAfter [] State.reset 0xFF50 = none ∧
    readAfter [(0xFF7F, 0x00)] State.reset 0x0000 = none := by decide

/-- The images of the vector S8: 0x31 at the start of the bootstrap, 0xC3 at the start of ROM0. -/
def startImages : State := { State.reset with bios := [(0, 0x31)], mem := [(0, 0xC3)] }

/-- Only the value 0x01 takes the overlay away. -/
theorem test_bios_latch :
    readAfter [] startImages 0x0000 = some 0x31 ∧ readAfter [(0xFF50, 0x01)] startImages 0x0000 = some 0xC3 ∧
    readAfter [(0xFF50, 0x00), (0xFF50, 0x03)] startImages 0x0000 = some 0x31 := by decide

/-- The outcome of a load, seen through the fault record. -/
def loadFault (r : Res Unit) : Option FaultRecord :=
  match r with
  | .ok _ _ => none
  | .raised record _ => some record

/-- The boundary of each size check, and the cartridge type byte at 0x147. -/
theorem test_image_checks :
    loadFault (loadBootstrap (List.replicate 257 0) State.reset) = some (.romFileSize 256 257) ∧
    loadFault (loadBootstrap (List.replicate 256 0) State.reset) = none ∧
    loadFault (loadRom (List.replicate 328 0x01) State.reset) = some .mapperNotImplemented ∧
    loadFault (loadRom [0xAA] State.reset) = none := by
  refine ⟨?_, ?_, ?_, rfl⟩
  · rw [loadBootstrap, List.length_replicate]
    rfl
  · rw [loadBootstrap, List.length_replicate]
    rfl
  · rw [loadRom, List.getD_eq_getElem?_getD, List.getElem?_replicate]
    rfl

/-- What one unit leaves of a GPU with a mode, line and mode clock: the mode, the line, the mode clock, the frames. -/
def unitLater (mode : GpuMode) (line modeClock : Nat) : GpuMode × Nat × Nat × Nat :=
  let g := ({ Gpu.reset with mode := mode, line := line, modeClock := modeClock }.advance 1).check []
  (g.mode, g.line, g.modeClock, g.frameCount)

/-- The transitions of the timeline T1, one unit before and at each. -/
theorem test_gpu_timeline :
    unitLater .oamScan 0 78 = (.oamScan, 0, 79, 0) ∧ unitLater .oamScan 0 79 = (.vramRead, 0, 0, 0) ∧
    unitLater .vramRead 0 171 = (.hBlank, 0, 0, 0) ∧ unitLater .hBlank 0 203 = (.oamScan, 1, 0, 0) ∧
    unitLater .hBlank 141 203 = (.oamScan, 142, 0, 0) ∧ unitLater .hBlank 142 203 = (.vBlank, 143, 0, 1) ∧
    unitLater .vBlank 143 455 = (.vBlank, 144, 0, 0) ∧ unitLater .vBlank 153 455 = (.oamScan, 0, 0, 0) := by decide

/-- The tile of the program P5: row 0 decodes to 3 3 1 1 2 2 0 0, and SCX = 4 shifts it left. -/
theorem test_tile_row :
    let mem := Memory.writeList (Memory.writeList [] 0x8010 [0xF0, 0xCC]) 0x9800 [0x01]
    let g := { Gpu.reset with lcdControl := 0x10, scrollX := 4 }
    (framePixel mem { g with scrollX := 0 } 0 0, framePixel mem { g with scrollX := 0 } 0 2) = (3, 1) ∧
    (framePixel mem g 0 0, framePixel mem g 0 1, framePixel mem g 0 2, framePixel mem g 1 0) = (2, 2, 0, 0) := by decide

/-! ### Every word placed and run from reset, as the host does (log entries 6, 7) -/

theorem test_table_word_numbering :
    decodeTableWord 8 0x00 = some .nop ∧ decodeTableWord 16 0xCB30 = some .swapB ∧ decodeTableWord 8 0xD3 = some .undefinedD3 ∧
    decodeTableWord 8 0x06 = some (.ldBImm 0) := by
  exact ⟨rfl, rfl, rfl, rfl⟩
theorem test_placed_word_runs :
    gives { State.reset.withFetchWord 8 0x3C with a := 0x07 } (fun t => (t.a, t.f, times t)) = some (0x08, 0x20, 1, 4, 1) := by
  decide

/-! ### The end of a run (R412) -/

/-- LD B,0x42 ends at the address after it, which is the first point where PC is there. -/
theorem test_run_ends : ∃ t, runEndsAt [0x06, 0x42] none 0x0002 1 t ∧ t.b = 0x42 := by
  refine ⟨_, ⟨_, rfl, ⟨rfl, rfl⟩, rfl, rfl, ⟨rfl, rfl⟩, ?_⟩, rfl⟩
  intro m hm u hu
  cases m with
  | zero => cases hu; decide
  | succ k => omega

/-- HALT reaches the address after it stuck, and a stuck state is never final (R18, R320). -/
theorem test_halt_is_no_end : ∀ t, ¬ endsAt (start [0x76]) 0xC001 1 t := by
  intro t ht
  have hstuck : gives (start [0x76]) State.halted = some true := by decide
  have hrun : step (start [0x76]) = .next t := by
    have h := ht.2.1
    simp only [Host.Core.run] at h
    split at h
    · rename_i u hu; cases h; exact hu
    · cases h
    · cases h
  rw [gives, hrun] at hstuck
  exact absurd (Option.some.inj hstuck) (by rw [ht.2.2.2.1.2]; decide)

/-! ### Other settings of the parameters (R6, R8, R340) -/

/-- The A of a next state. -/
def outcomeA (o : Step) : Option Byte :=
  match o with
  | .next t => some t.a
  | .fault _ => none
  | .refused _ => none

/-- The nibble rule that R152 gives for silicon, set in the field of HalfAdd: 0x08 + 0x08 then sets H, and 0x07 + 0x01 does
not (the corner cases of R210). -/
theorem test_half_add_is_a_setting :
    let nibble : FlagPredicates :=
      { flagPredicates with halfAdd := fun a b cin => decide (a.toNat % 16 + b.toNat % 16 + cin.toNat > 15) }
    (addIn nibble 0x08 { State.reset with a := 0x08 }).flagH = true ∧
      (addA 0x08 { State.reset with a := 0x08 }).flagH = false ∧
      (addIn nibble 0x01 { State.reset with a := 0x07 }).flagH = false ∧
      (addA 0x01 { State.reset with a := 0x07 }).flagH = true := by
  decide

/-- A `GPU_REGS` that lists SCY at 0xFF4A alone (R340): LDH A,(0x4A) reads it there and LDH A,(0x42) raises; with the default
map it is the other way round. -/
theorem test_gpu_regs_is_a_setting :
    let cfg := withGpuRegs fun a => if a = 0xFF4A then some .scy else none
    let at4A := { start [0xF0, 0x4A] with gpu := { Gpu.reset with scrollY := 0x5C } }
    let at42 := { start [0xF0, 0x42] with gpu := { Gpu.reset with scrollY := 0x5C } }
    outcomeA (stepIn cfg at4A) = some 0x5C ∧ outcomeA (step at4A) = none ∧ outcomeA (stepIn cfg at42) = none ∧
      outcomeA (step at42) = some 0x5C := by
  decide

/-! ### Witnesses: every statement with hypotheses has something that meets them -/

/-- A byte operand at HL that answers a read, at 0xD000 and at the last address before 0xFF03, and one that does not. -/
abbrev operandCases : Prop :=
  readFaults (startHl [0x86] 0xD000).hl = false ∧ readFaults (startHl [0x86] 0xFF02).hl = false ∧
    readFaults (startHl [0x86] 0xFF03).hl = true ∧ readFaults (startHl [0x86] 0xFF01).hl = true

/-- A stack pointer for each of the three cases of a push: both stores answer, the first does not, only the second does not. -/
abbrev pushCases : Prop :=
  (writeFaults ({ start [0xC5] with sp := 0xFF82 }.sp - 1) = false ∧ writeFaults ({ start [0xC5] with sp := 0xFF82 }.sp - 2) = false) ∧
  writeFaults ({ start [0xC5] with sp := 0xFF80 }.sp - 1) = true ∧
  (writeFaults ({ start [0xC5] with sp := 0xFF81 }.sp - 1) = false ∧ writeFaults ({ start [0xC5] with sp := 0xFF81 }.sp - 2) = true)

/-- A stack pointer for each of the three cases of a pop. -/
abbrev popCases : Prop :=
  (readFaults { start [0xC1] with sp := 0xFEFF }.sp = false ∧ readFaults ({ start [0xC1] with sp := 0xFEFF }.sp + 1) = false) ∧
  readFaults { start [0xC1] with sp := 0xFF01 }.sp = true ∧
  (readFaults { start [0xC1] with sp := 0xFF00 }.sp = false ∧ readFaults ({ start [0xC1] with sp := 0xFF00 }.sp + 1) = true)

/-- A condition that holds and one that does not, for each of the four. -/
abbrev conditionCases : Prop :=
  condition .nz 0x70 = true ∧ condition .nz 0x80 = false ∧ condition .z 0x80 = true ∧ condition .z 0x70 = false ∧
    condition .nc 0xE0 = true ∧ condition .nc 0x10 = false ∧ condition .c 0x10 = true ∧ condition .c 0xE0 = false

theorem witness_ResetValues : List.replicate 160 0 ∈ State.reset.gpu.frameBuffer ∧ (0 : BitVec 2) ∈ List.replicate 160 0 :=
  ⟨.head _, .head _⟩
theorem witness_LaunchLoadsImages :
    (List.replicate 256 (0x31 : Byte)).length ≤ 256 ∧ (List.replicate 257 (0x31 : Byte)).length > 256 ∧
      ([0xAA] : List Byte).getD 0x147 0 = 0 ∧ (List.replicate 328 (0x01 : Byte)).getD 0x147 0 ≠ 0 := by
  refine ⟨(List.length_replicate).le, ?_, rfl, ?_⟩
  · rw [List.length_replicate]
    decide
  · rw [List.getD_eq_getElem?_getD, List.getElem?_replicate]
    decide
theorem witness_DecodeOfEncode :
    Instr.wellFormed (.ldBImm 0x42) = true ∧ Instr.wellFormed (.ldBcImm16 0x1234) = true ∧ Instr.wellFormed .swapB = true := by
  decide
theorem witness_EncodeOfDecode : decode [0x01, 0x34, 0x12, 0x99] = .ok (.ldBcImm16 0x1234, [0x99]) := by rfl
theorem witness_FirstByteFixesLength :
    decode [0x00] = .ok (.nop, []) ∧ decode [0x06, 0x42] = .ok (.ldBImm 0x42, []) ∧
      decode [0xC3, 0x50, 0x01, 0x99] = .ok (.jpImm16 0x0150, [0x99]) ∧ decode [0xCB, 0x30] = .ok (.swapB, []) := by
  exact ⟨rfl, rfl, rfl, rfl⟩
theorem witness_UnassignedBytesStop :
    (0xFD, Instr.undefinedFD) ∈ unassignedRows ∧ (start [0xFD]).fault = none ∧ (start [0xFD]).halted = false ∧
      memRead (start [0xFD]) (start [0xFD]).pc = .ok 0xFD := by
  exact ⟨by decide, rfl, rfl, rfl⟩
theorem witness_StepRunsDecodedInstruction :
    (start [0x06, 0x42]).fault = none ∧ (start [0x06, 0x42]).halted = false ∧
      bytesAt (start [0x06, 0x42]) (start [0x06, 0x42]).pc [0x06, 0x42] ∧ decode [0x06, 0x42] = .ok (.ldBImm 0x42, []) := by
  exact ⟨rfl, rfl, ⟨rfl, rfl, trivial⟩, rfl⟩
/-- Both sides of the equivalence occur: a step that exists, and none after a fault or a halt. -/
theorem witness_StepExistsIff :
    (State.reset.fault = none ∧ State.reset.halted = false) ∧
      step { State.reset with halted := true } = .fault .noStepHalted ∧
      step { State.reset with fault := some .mapperNotImplemented } = .fault (.noStepFaulted .mapperNotImplemented) := by
  exact ⟨⟨rfl, rfl⟩, rfl, rfl⟩

/-- PC at 0xFF47 with BGP holding the first byte of LD B,n: the second byte, at 0xFF48, answers no read. -/
def startAtBgp : State := { State.reset with pc := 0xFF47, gpu := { Gpu.reset with backgroundPalette := 0x06 } }
/-- PC at 0xFF43 with SCX and LY holding the first two bytes of LD BC,nn: the third byte, at 0xFF45, answers no read. -/
def startAtScx : State := { State.reset with pc := 0xFF43, gpu := { Gpu.reset with scrollX := 0x01, line := 0x34 } }

/-- A fetch that raises at the first, the second and the third byte. -/
theorem witness_InstructionFetchFaults :
    (readFaults ({ State.reset with pc := 0xFF03 }.pc + BitVec.ofNat 16 0) = true ∧ encode .nop = [0x00]) ∧
    (bytesAt startAtBgp startAtBgp.pc ((encode (.ldBImm 0x42)).take 1) ∧ readFaults (startAtBgp.pc + BitVec.ofNat 16 1) = true) ∧
    (bytesAt startAtScx startAtScx.pc ((encode (.ldBcImm16 0x1234)).take 2) ∧
      readFaults (startAtScx.pc + BitVec.ofNat 16 2) = true) := by
  exact ⟨⟨by decide, rfl⟩, ⟨⟨rfl, trivial⟩, by decide⟩, ⟨rfl, rfl, trivial⟩, by decide⟩

/-- A state in the middle of a run. -/
def midRun : State := { start [0x3C] with a := 0x07, f := 0x90, mClock := 400, tClock := 100, biosMapped := false }

/-- The step of INC A from it. -/
theorem midRun_steps : ∃ t, step midRun = .next t := ⟨_, rfl⟩

theorem witness_InvKeptByStep : Inv { midRun with gpu := { Gpu.reset with modeClock := 20, mode := .vramRead } } ∧
    ∃ t, step { midRun with gpu := { Gpu.reset with modeClock := 20, mode := .vramRead } } = .next t := by
  refine ⟨⟨by decide, rfl, rfl, by decide, by decide, by decide, ⟨?_, ?_⟩, by decide, by decide⟩, _, rfl⟩
  · exact List.length_replicate
  · intro row hrow
    rw [List.eq_of_mem_replicate hrow]
    exact List.length_replicate
theorem witness_RomFixedAndOverlayStaysOff : (∃ t, step midRun = .next t) ∧ midRun.biosMapped = false ∧ 0x7FFF < 0x8000 :=
  ⟨midRun_steps, rfl, by decide⟩
theorem witness_StepAdvancesClocks : ∃ t, step midRun = .next t := midRun_steps

/-- The ends of every range of the decode. -/
theorem witness_BusReadByRange :
    ((0x0000 : Word).toNat ≤ 0x00FF ∧ (0x00FF : Word).toNat ≤ 0x00FF ∧ State.reset.biosMapped = true ∧ midRun.biosMapped = false) ∧
    (0x0100 ≤ (0x0100 : Word).toNat ∧ (0xDFFF : Word).toNat ≤ 0xDFFF) ∧
    (0xE000 ≤ (0xE000 : Word).toNat ∧ (0xFDFF : Word).toNat ≤ 0xFDFF) ∧
    (0xFE00 ≤ (0xFE00 : Word).toNat ∧ (0xFE9F : Word).toNat ≤ 0xFE9F) ∧
    (0xFEA0 ≤ (0xFEA0 : Word).toNat ∧ (0xFF00 : Word).toNat ≤ 0xFF00) ∧ (0xFF02 : Word).toNat = 0xFF02 ∧
    (0xFF80 ≤ (0xFF80 : Word).toNat ∧ 0xFF80 ≤ (0xFFFF : Word).toNat) ∧
    (gpuRegs (0xFF40 : Word).toNat = some .lcdc ∧ gpuRegs (0xFF44 : Word).toNat = some .ly ∧
      gpuRegs (0xFF47 : Word).toNat = some .bgp) ∧
    ((0xFF01 : Word).toNat = 0xFF01 ∧ 0xFF03 ≤ (0xFF03 : Word).toNat ∧ (0xFF3F : Word).toNat ≤ 0xFF3F ∧
      gpuRegs (0xFF45 : Word).toNat = none ∧ gpuRegs (0xFF50 : Word).toNat = none ∧ gpuRegs (0xFF7F : Word).toNat = none) := by
  decide
theorem witness_BusWriteByRange :
    ((0x0000 : Word).toNat ≤ 0x7FFF ∧ (0x7FFF : Word).toNat ≤ 0x7FFF) ∧
    (0x8000 ≤ (0x8000 : Word).toNat ∧ (0xDFFF : Word).toNat ≤ 0xDFFF) ∧
    (0xE000 ≤ (0xE000 : Word).toNat ∧ (0xFDFF : Word).toNat ≤ 0xFDFF) ∧
    (0xFE00 ≤ (0xFE00 : Word).toNat ∧ (0xFE9F : Word).toNat ≤ 0xFE9F) ∧
    (0xFEA0 ≤ (0xFEA0 : Word).toNat ∧ (0xFF00 : Word).toNat ≤ 0xFF00) ∧
    ((0xFF01 : Word).toNat = 0xFF01 ∧ (0xFF02 : Word).toNat = 0xFF02 ∧ (0xFF50 : Word).toNat = 0xFF50) ∧
    (0xFF80 ≤ (0xFF80 : Word).toNat ∧ 0xFF80 ≤ (0xFFFF : Word).toNat) ∧
    (gpuRegs (0xFF40 : Word).toNat = some .lcdc ∧ gpuRegs (0xFF47 : Word).toNat = some .bgp) ∧
    (0xFF03 ≤ (0xFF03 : Word).toNat ∧ (0xFF3F : Word).toNat ≤ 0xFF3F ∧ gpuRegs (0xFF45 : Word).toNat = none ∧
      gpuRegs (0xFF4F : Word).toNat = none ∧ (0xFF4F : Word).toNat ≠ 0xFF50 ∧ gpuRegs (0xFF51 : Word).toNat = none) := by
  decide
theorem witness_LoadAfterStore :
    (∃ t, memWrite State.reset 0xC000 0x5A = .ok t) ∧ ramAddress 0xC000 = true ∧ ramAddress 0x8000 = true ∧
      ramAddress 0xFE9F = true ∧ ramAddress 0xFF80 = true ∧ ¬ storeReaches 0xC000 0xC001 ∧ ¬ storeReaches 0xC000 0xE001 := by
  refine ⟨⟨_, rfl⟩, by decide, by decide, by decide, by decide, ?_, ?_⟩ <;> unfold storeReaches sameByte <;> decide
theorem witness_EchoMirrorsWram :
    (0xE000 ≤ (0xE000 : Word).toNat ∧ (0xE000 : Word).toNat ≤ 0xFDFF) ∧ (0xE000 ≤ (0xFDFF : Word).toNat) ∧
      (0xDE00 ≤ (0xDE00 : Word).toNat ∧ (0xDFFF : Word).toNat ≤ 0xDFFF) ∧ (0xDE01 : Word) ≠ 0xDE00 := by
  decide
theorem witness_BiosLatch :
    (∃ t, memWrite State.reset 0xC000 0x01 = .ok t ∧ t.biosMapped = true) ∧ (0x00FF : Word).toNat ≤ 0x00FF ∧
      (0x0100 ≤ (0x0100 : Word).toNat ∧ (0x3FFF : Word).toNat ≤ 0x3FFF) := by
  exact ⟨⟨_, rfl, rfl⟩, by decide, by decide, by decide⟩
theorem witness_GpuRegisterWindow :
    (0xFF48 ≤ (0xFF48 : Word).toNat ∧ (0xFF4F : Word).toNat ≤ 0xFF4F) ∧
      (0xFF51 ≤ (0xFF51 : Word).toNat ∧ (0xFF7F : Word).toNat ≤ 0xFF7F) := by decide
/-- The first and the last address of the window listed in another map, one that it leaves out, and the nearest addresses
outside: the last one below, the first one above, the BIOS latch. -/
theorem witness_GpuRegisterWindow_other_map :
    let regs : GpuRegs := fun a => if a = 0xFF40 then some .ly else if a = 0xFF7F then some .bgp else none
    (inGpuWindow 0xFF40 ∧ regs (0xFF40 : Word).toNat = some .ly) ∧ (inGpuWindow 0xFF7F ∧ regs (0xFF7F : Word).toNat = some .bgp) ∧
      (inGpuWindow 0xFF51 ∧ regs (0xFF51 : Word).toNat = none) ∧ ¬ inGpuWindow 0xFF3F ∧ ¬ inGpuWindow 0xFF80 ∧
      ¬ inGpuWindow 0xFF50 := by
  refine ⟨⟨⟨?_, ?_, ?_⟩, ?_⟩, ⟨⟨?_, ?_, ?_⟩, ?_⟩, ⟨⟨?_, ?_, ?_⟩, ?_⟩, fun h => ?_, fun h => ?_, fun h => h.2.2 rfl⟩
  case refine_13 => exact absurd h.1 (by decide)
  case refine_14 => exact absurd h.2.1 (by decide)
  all_goals decide
theorem witness_AddToAccumulator : operandCases := by decide
theorem witness_AddWithCarry : operandCases := by decide
theorem witness_SubtractFromAccumulator : operandCases := by decide
theorem witness_SubtractWithBorrow : operandCases := by decide
theorem witness_LogicOnAccumulator : operandCases := by decide
theorem witness_CompareWithAccumulator : operandCases := by decide
theorem witness_IncrementByte : operandCases := by decide
theorem witness_DecrementByte : operandCases := by decide
theorem witness_FlagPredicateConsequences :
    (∃ i v t, stepsByte .incReg .incAtHl i State.reset v ∧ exec i State.reset = .next t) ∧
      (∃ i v t, stepsByte .decReg .decAtHl i State.reset v ∧ exec i State.reset = .next t) ∧
      (∃ i x t, aluReads .sub i State.reset x ∧ exec i State.reset = .next t) ∧
      (∃ i x t, aluReads .sbc i State.reset x ∧ exec i State.reset = .next t) ∧
      (∃ t, exec (.aluReg .sub .a) State.reset = .next t) ∧ (∃ t, exec (.aluReg .cp .a) State.reset = .next t) ∧
      { State.reset with f := 0x10 }.flagC = true ∧ ∃ t, exec (.aluReg .sbc .a) { State.reset with f := 0x10 } = .next t := by
  exact ⟨⟨.incAtHl, 0, _, .inr ⟨rfl, rfl⟩, rfl⟩, ⟨.decReg .b, 0, _, .inl ⟨.b, rfl, rfl⟩, rfl⟩,
    ⟨.aluAtHl .sub, 0, _, .inr (.inr ⟨rfl, rfl⟩), rfl⟩, ⟨.aluImm .sbc 1, 1, _, .inr (.inl rfl), rfl⟩, ⟨_, rfl⟩, ⟨_, rfl⟩, rfl, _, rfl⟩
theorem witness_LoadFromMemory :
    operandCases ∧ readFaults { start [0x0A] with b := 0xC2 }.bc = false ∧ readFaults { start [0x0A] with b := 0xFF, c := 0x3F }.bc = true ∧
      readFaults { start [0x1A] with d := 0xC2 }.de = false ∧ readFaults { start [0x1A] with d := 0xFF, e := 0x7F }.de = true ∧
      readFaults (0xFF00 + (0x44 : Byte).zeroExtend 16) = false ∧ readFaults (0xFF00 + (0x50 : Byte).zeroExtend 16) = true := by
  decide
theorem witness_StoreToMemory :
    (writeFaults (startHl [0x70] 0xFF01).hl = false ∧ writeFaults (startHl [0x70] 0xFF3F).hl = true) ∧
      writeFaults { start [0x02] with b := 0xC2 }.bc = false ∧ writeFaults { start [0x02] with b := 0xFF, c := 0x48 }.bc = true ∧
      writeFaults { start [0x12] with d := 0xC2 }.de = false ∧ writeFaults { start [0x12] with d := 0xFF, e := 0x4F }.de = true ∧
      writeFaults (0xFF00 + (0x50 : Byte).zeroExtend 16) = false ∧ writeFaults (0xFF00 + (0x51 : Byte).zeroExtend 16) = true := by
  decide
theorem witness_LoadStoreMovingHl :
    operandCases ∧ writeFaults (startHl [0x22] 0xFF02).hl = false ∧ writeFaults (startHl [0x22] 0xFF45).hl = true := by decide
theorem witness_StoreStackPointer :
    (writeFaults 0xC100 = false ∧ writeFaults (0xC100 + 1) = false) ∧ writeFaults 0xFF03 = true ∧
      (writeFaults 0xFF02 = false ∧ writeFaults (0xFF02 + 1) = true) := by decide
theorem witness_PushPair : pushCases := by decide
theorem witness_PopPair : popCases := by decide
theorem witness_PushThenPop :
    ramAddress ({ start [0xC5] with sp := 0x8002 }.sp - 1) = true ∧ ramAddress ({ start [0xC5] with sp := 0x8002 }.sp - 2) = true ∧
      ramAddress ({ start [0xC5] with sp := 0x0000 }.sp - 1) = true ∧ ramAddress ({ start [0xC5] with sp := 0x0000 }.sp - 2) = true := by
  decide
theorem witness_ConditionalJumps : conditionCases := by decide
theorem witness_Calls : pushCases ∧ conditionCases := by decide
theorem witness_Returns : popCases ∧ conditionCases := by decide
theorem witness_RotatesAndShifts : operandCases := by decide
theorem witness_TestBit : operandCases := by decide
theorem witness_ResetAndSetBit : operandCases := by decide
theorem witness_HaltAndStopLeaveMachineStuck :
    ((start [0x76]).fault = none ∧ (start [0x76]).halted = false ∧ bytesAt (start [0x76]) (start [0x76]).pc [0x76]) ∧
      bytesAt (start [0x10, 0x55]) (start [0x10, 0x55]).pc [0x10, 0x55] := by
  exact ⟨⟨rfl, rfl, rfl, trivial⟩, rfl, rfl, trivial⟩
theorem witness_FrameOfRegisters :
    (∃ t, exec .popAf (start [0xF1]) = .next t) ∧ Reg8.b ∉ regsWritten .popAf ∧ firstByte .popAf ∉ pcWriters ∧
      firstByte .nop ∉ spWriters := by
  exact ⟨⟨_, rfl⟩, by decide, by decide, by decide⟩
theorem witness_FrameOfMemory :
    (∃ t, exec .pushBc { start [0xC5] with sp := 0xD002 } = .next t) ∧
      ∀ a ∈ storeAddrs .pushBc { start [0xC5] with sp := 0xD002 }, ¬ storeReaches a 0xD002 := by
  refine ⟨⟨_, rfl⟩, fun a ha => ?_⟩
  have hcases : a = 0xD001 ∨ a = 0xD000 := by
    rcases ha with _ | ⟨_, _ | ⟨_, ha⟩⟩
    · exact .inl rfl
    · exact .inr rfl
    · cases ha
  unfold storeReaches sameByte
  rcases hcases with rfl | rfl <;> decide
theorem witness_FrameOfSpecialState :
    (∃ t, exec .ldAtHlA (startHl [0x77] 0xFF02) = .next t) ∧ Instr.ldAtHlA ≠ .di ∧ Instr.ldAtHlA ≠ .halt ∧
      (cost .ldAtHlA).notTaken = none ∧ 0xFF01 ∉ storeAddrs .ldAtHlA (startHl [0x77] 0xFF02) ∧
      0xFF50 ∉ storeAddrs .ldAtHlA (startHl [0x77] 0xFF02) := by
  exact ⟨⟨_, rfl⟩, by decide, by decide, rfl, by decide, by decide⟩
theorem witness_GpuModeTransitions :
    { Gpu.reset with mode := .oamScan }.mode = .oamScan ∧ { Gpu.reset with mode := .vramRead }.mode = .vramRead ∧
      { Gpu.reset with mode := .hBlank }.mode = .hBlank ∧ { Gpu.reset with mode := .vBlank }.mode = .vBlank := by
  exact ⟨rfl, rfl, rfl, rfl⟩
theorem witness_ScanlineTakes456Units :
    ({ Gpu.reset with line := 142 }.modeClock = 0 ∧ { Gpu.reset with line := 142 }.mode = .oamScan ∧
        { Gpu.reset with line := 142 }.line ≤ 142) ∧
      ({ Gpu.reset with mode := .vBlank, line := 153 }.modeClock = 0 ∧
        { Gpu.reset with mode := .vBlank, line := 153 }.mode = .vBlank ∧
        { Gpu.reset with mode := .vBlank, line := 153 }.line ≤ 153) := by
  decide
theorem witness_RenderedFrame : 143 < 144 ∧ 159 < 160 := by decide
/-- One clause each: LD B,A left out of the base set, SWAP B out of the CB set, and a byte that these sets keep. -/
theorem witness_ImplementedSets :
    let cfg : Settings := { settings with implSets := ⟨fun op => op != 0x47, fun op2 => op2 != 0x30⟩ }
    ((start [0x47]).fault = none ∧ (start [0x47]).halted = false ∧ memRead (start [0x47]) (start [0x47]).pc cfg = .ok 0x47 ∧
        implBase 0x47 = true ∧ cfg.implSets.base 0x47 = false) ∧
      (memRead (start [0xCB, 0x30]) (start [0xCB, 0x30]).pc cfg = .ok 0xCB ∧
        memRead (start [0xCB, 0x30]) ((start [0xCB, 0x30]).pc + 1) cfg = .ok 0x30 ∧ cfg.implSets.cb 0x30 = false) ∧
      (∀ op, memRead (start [0x48]) (start [0x48]).pc cfg = .ok op → implBase op = true → cfg.implSets.base op = true) ∧
      (memRead (start [0x48]) (start [0x48]).pc cfg = .ok 0xCB → ∀ op2,
        memRead (start [0x48]) ((start [0x48]).pc + 1) cfg = .ok op2 → cfg.implSets.cb op2 = true) := by
  intro cfg
  have h : memRead (start [0x48]) (start [0x48]).pc cfg = .ok 0x48 := by decide
  refine ⟨by decide, by decide, ?_, ?_⟩
  · intro op hop _
    rw [h] at hop
    cases hop
    decide
  · intro hcb
    rw [h] at hcb
    cases hcb

end Sys2Proof.Tests
end

section
/-! The implemented sets as a parameter (R6, R124, R326). The sets enter a step at the lookup of the fetched byte and nowhere
else, so a step under smaller sets is the default step or the fault of one table miss. -/

namespace Sys2Proof.Machine

open Sys2Proof

/-! ### The default sets -/

/-- The base map assigns every byte but the escape byte and the eleven of R98. -/
theorem implBase_iff (op : Byte) : implBase op = true ↔ op ≠ 0xCB ∧ ∀ i, (op, i) ∉ Safety.unassignedRows := by
  have hbytes : (∀ i, (op, i) ∉ Safety.unassignedRows) ↔ op ∉ Safety.unassignedRows.map Prod.fst := by
    simp only [List.mem_map, Prod.exists, exists_and_right, exists_eq_right, not_exists]
  rw [hbytes]
  clear hbytes
  revert op
  decide

/-- The base map gives an unassigned byte its row (R98, R325). -/
theorem baseEntry_of_mem_unassignedRows {op : Byte} {i : Instr} (h : (op, i) ∈ Safety.unassignedRows) :
    baseEntry op = .unassigned i := by
  simp only [Safety.unassignedRows, List.mem_cons, Prod.mk.injEq, List.not_mem_nil, or_false] at h
  rcases h with ⟨rfl, rfl⟩ | ⟨rfl, rfl⟩ | ⟨rfl, rfl⟩ | ⟨rfl, rfl⟩ | ⟨rfl, rfl⟩ | ⟨rfl, rfl⟩ | ⟨rfl, rfl⟩ | ⟨rfl, rfl⟩ |
    ⟨rfl, rfl⟩ | ⟨rfl, rfl⟩ | ⟨rfl, rfl⟩ <;> rfl

/-- Only the escape byte leads to the CB-extended table (R96). -/
theorem eq_0xCB_of_baseEntry {op : Byte} (h : baseEntry op = .escapeCb) : op = 0xCB := by
  by_contra hne
  have hassigned : implBase op = true := (implBase_iff op).mpr ⟨hne, fun i hi => by
    rw [baseEntry_of_mem_unassignedRows hi] at h
    cases h⟩
  simp [implBase, h] at hassigned

/-- The default sets are a legal setting (R6, R98). -/
theorem implSets_legal : implSets.legal := ⟨by decide, by decide, fun _ h => h⟩

/-! ### What does not depend on the sets -/

section
variable (cfg : Settings) (sets : ImplSets)

theorem fetch8_implSets (s : State) : fetch8 s { cfg with implSets := sets } = fetch8 s cfg := rfl

theorem account_implSets (i : Instr) (s : State) : account i s { cfg with implSets := sets } = account i s cfg := rfl

/-- No instruction's effect looks at the sets. -/
theorem execIn_implSets (i : Instr) (s : State) : execIn { cfg with implSets := sets } i s = execIn cfg i s := by
  cases i <;> rfl

end

/-! ### The lookup of a byte -/

/-- A miss in the base table (R124, R326). -/
theorem fetchInstr_of_base_miss {cfg : Settings} {s : State} {op : Byte} (hop : memRead s s.pc cfg = .ok op)
    (hassigned : implBase op = true) (hout : cfg.implSets.base op = false) :
    fetchInstr s cfg = raise (.instructionNotImplemented op s.pc) { s with pc := s.pc + 1 } := by
  unfold fetchInstr
  rw [fetch8_of_ok hop, Res.ok_andThen]
  unfold implBase at hassigned
  cases he : baseEntry op <;> simp [he, hout] at hassigned ⊢

/-- A miss in the CB-extended table: the record has the second byte and its address (R326, D30). -/
theorem fetchInstr_of_cb_miss {cfg : Settings} {s : State} {op2 : Byte} (hcb : memRead s s.pc cfg = .ok 0xCB)
    (hop2 : memRead s (s.pc + 1) cfg = .ok op2) (hout : cfg.implSets.cb op2 = false) :
    fetchInstr s cfg = raise (.instructionNotImplemented op2 (s.pc + 1)) { s with pc := s.pc + 2 } := by
  have hescape : baseEntry 0xCB = .escapeCb := rfl
  unfold fetchInstr
  rw [fetch8_of_ok hcb, Res.ok_andThen, hescape]
  dsimp only
  rw [fetch8_of_ok (s := { s with pc := s.pc + 1 }) hop2, Res.ok_andThen]
  simp [hout, BitVec.add_assoc]

/-- Where the sets hold the bytes that are looked up, the fetch is that of the default sets. -/
theorem fetchInstr_of_hit {cfg : Settings} {s : State}
    (hbase : ∀ op, memRead s s.pc cfg = .ok op → implBase op = true → cfg.implSets.base op = true)
    (hcb : memRead s s.pc cfg = .ok 0xCB → ∀ op2, memRead s (s.pc + 1) cfg = .ok op2 → cfg.implSets.cb op2 = true) :
    fetchInstr s cfg = fetchInstr s { cfg with implSets := implSets } := by
  unfold fetchInstr
  simp only [fetch8_implSets]
  cases hop : memRead s s.pc cfg with
  | error record => simp only [fetch8_of_error hop, raise_andThen]
  | ok op =>
    simp only [fetch8_of_ok hop, Res.ok_andThen]
    have hin : implBase op = true → cfg.implSets.base op = implSets.base op := fun h => (hbase op hop h).trans h.symm
    cases he : baseEntry op with
    | unassigned i => rfl
    | escapeCb =>
      cases eq_0xCB_of_baseEntry he
      cases hop2 : memRead s (s.pc + 1) cfg with
      | error record => simp only [fetch8_of_error (s := { s with pc := s.pc + 1 }) hop2, raise_andThen]
      | ok op2 =>
        have hin2 : cfg.implSets.cb op2 = implSets.cb op2 := hcb hop op2 hop2
        simp only [fetch8_of_ok (s := { s with pc := s.pc + 1 }) hop2, Res.ok_andThen, hin2]
    | plain i => simp only [hin (by simp [implBase, he])]
    | imm8 make => simp only [hin (by simp [implBase, he])]
    | imm16 make => simp only [hin (by simp [implBase, he])]

/-! ### The step -/

/-- A raise of the fetch is the outcome of the step (R130). -/
theorem runStep_of_fetch_raise {cfg : Settings} {effect : Instr → State → Step} {s t : State} {record : FaultRecord}
    (hf : s.fault = none) (hh : s.halted = false) (hfetch : fetchInstr s cfg = raise record t) :
    runStep effect s cfg = .fault (.raised record { t with fault := some record }) := by
  rw [runStep_ready hf hh, hfetch]
  rfl

/-- The sets matter to a step only through its fetch. -/
theorem stepIn_implSets_of_fetch {cfg : Settings} {sets : ImplSets} {s : State}
    (hfetch : fetchInstr s cfg = fetchInstr s { cfg with implSets := sets }) :
    stepIn cfg s = stepIn { cfg with implSets := sets } s := by
  have heffect : execIn { cfg with implSets := sets } = execIn cfg := funext₂ (execIn_implSets cfg sets)
  unfold stepIn runStep
  simp only [heffect, hfetch, account_implSets]

/-- With the spec's settings the parameterised step is the model's own (R6 to R12, R14). -/
theorem stepIn_settings (s : State) : stepIn settings s = step s := by
  unfold stepIn step
  rw [funext₂ execIn_settings]

/-- Settles O60: the sets matter to a step only at the lookup of the fetched byte, which is a miss (a raise before the effect)
or a hit (the fetch of the default sets). -/
theorem implementedSets : Obligations.ImplementedSets := by
  refine ⟨⟨implBase_iff, fun _ => rfl, implSets_legal⟩, fun cfg s => ⟨?_, ?_, ?_⟩, stepIn_settings⟩
  · intro op hf hh hop hassigned hout
    exact runStep_of_fetch_raise hf hh (fetchInstr_of_base_miss hop hassigned hout)
  · intro op2 hf hh hcb hop2 hout
    exact runStep_of_fetch_raise hf hh (fetchInstr_of_cb_miss hcb hop2 hout)
  · intro hbase hcb
    exact stepIn_implSets_of_fetch (fetchInstr_of_hit hbase hcb)

end Sys2Proof.Machine
end

section
/-! What every step keeps (R32 to R37, R60, R69, R127, R337, R353, R422): the cycles a step charges, what the GPU check keeps of the
scan position and the frame, and the three statements about a step that answers a next state. -/

namespace Sys2Proof.Machine

open Sys2Proof

/-! ### The cycles a step charges (R126, R353) -/

/-- A charge of whole units of 4 cycles, 1 to 6 of them. -/
abbrev IsCharge (cycles : Nat) : Prop := 1 ≤ cycles / 4 ∧ cycles / 4 ≤ 6 ∧ cycles = 4 * (cycles / 4)

/-- The row of every instruction whose effect answers a next state holds charges of 1 to 6 units, taken or not. -/
theorem cost_isCharge {i : Instr} {s t : State} (h : exec i s = .next t) :
    IsCharge (cost i).cycles ∧ IsCharge ((cost i).notTaken.getD (cost i).cycles) := by
  cases i
  case undefinedD3 | undefinedDB | undefinedDD | undefinedE3 | undefinedE4 | undefinedEB | undefinedEC | undefinedED |
      undefinedF4 | undefinedFC | undefinedFD => cases h
  all_goals
    dsimp only [cost]
    decide

/-- The charge of an effect that answers is 1 to 6 units (R353). -/
theorem cyclesCharged_units {i : Instr} {s t : State} (h : exec i s = .next t) (notTaken : Bool) :
    ∃ n, 1 ≤ n ∧ n ≤ 6 ∧ cyclesCharged i notTaken = 4 * n := by
  obtain ⟨htaken, hnot⟩ := cost_isCharge h
  cases notTaken
  · exact ⟨_, htaken⟩
  · exact ⟨_, hnot⟩

/-! ### The check of the GPU (R337) -/

/-- The scan position and the frame have their shapes (R37, R339). -/
structure GpuScan (g : Gpu) : Prop where
  lineMode : g.line ≤ 142 ↔ g.mode ≠ .vBlank
  line : g.line ≤ 153
  frame : Safety.frameShape g.frameBuffer

/-- After a check the mode clock is below the budget of the mode: it was, or a transition has cleared it (R422). -/
theorem Gpu.check_modeClock_lt (mem : Memory) (g : Gpu) : (g.check mem).modeClock < (g.check mem).mode.budget := by
  rcases Gpu.check_cases mem g with ⟨hlt, h⟩ | ⟨_, ⟨_, h⟩ | ⟨_, h⟩ | ⟨_, _, h⟩ | ⟨_, _, h⟩ | ⟨hmode, _, h⟩ | ⟨hmode, _, h⟩⟩ <;>
    rw [h]
  · exact hlt
  all_goals simp [GpuMode.budget, *]

/-- A check keeps the scan position and the frame in shape. -/
theorem Gpu.check_scan (mem : Memory) {g : Gpu} (hg : GpuScan g) : GpuScan (g.check mem) := by
  obtain ⟨hlineMode, hline, hframe⟩ := hg
  rcases Gpu.check_cases mem g with ⟨_, h⟩ | ⟨_, ⟨hmode, h⟩ | ⟨hmode, h⟩ | ⟨_, hl, h⟩ | ⟨hmode, hl, h⟩ | ⟨_, _, h⟩ |
    ⟨hmode, hl, h⟩⟩ <;> rw [h]
  · exact ⟨hlineMode, hline, hframe⟩
  · exact ⟨by simpa [hmode] using hlineMode, hline, hframe⟩
  · exact ⟨by simpa [hmode] using hlineMode, hline, hframe⟩
  · exact ⟨by simp; omega, by simp; omega, Gpu.renderFrame_shape mem _⟩
  · have hscanned : g.line ≤ 142 := by simp [hlineMode, hmode]
    exact ⟨by simp; omega, by simp; omega, hframe⟩
  · exact ⟨by simp, by simp, hframe⟩
  · have hblank : ¬ g.line ≤ 142 := by simp [hlineMode, hmode]
    exact ⟨by simp [hmode]; omega, hl, hframe⟩

/-- A check renders at most one frame (R352). -/
theorem Gpu.check_frameCount (mem : Memory) (g : Gpu) :
    (g.check mem).frameCount = g.frameCount ∨ (g.check mem).frameCount = g.frameCount + 1 := by
  rcases Gpu.check_cases mem g with ⟨_, h⟩ | ⟨_, ⟨_, h⟩ | ⟨_, h⟩ | ⟨_, _, h⟩ | ⟨_, _, h⟩ | ⟨_, _, h⟩ | ⟨_, _, h⟩⟩ <;>
    rw [h]
  case inr.inr.inr.inl => exact .inr rfl
  all_goals exact .inl rfl

/-! ### The step -/

/-- A step that answers is an effect inside the frame, whose charge of 1 to 6 units is then accounted for (R129). -/
theorem step_effect {s t : State} (h : step s = .next t) : ∃ i v n, EffectFrame s v ∧ 1 ≤ n ∧ n ≤ 6 ∧
    cyclesCharged i v.notTaken = 4 * n ∧ t = account i v := by
  obtain ⟨_, _, i, u, v, hfetch, hexec, rfl⟩ := runStep_next.mp h
  have hu : EffectFrame s u := by
    rw [fetchInstr_ok hfetch]
    apply EffectFrame.of_eq <;> rfl
  obtain ⟨n, hlow, hhigh, hcycles⟩ := cyclesCharged_units hexec v.notTaken
  exact ⟨i, v, n, hu.trans (exec_effect hexec), hlow, hhigh, hcycles, rfl⟩

/-- Settles O12: the effect keeps F's low nibble and the memories, the charge keeps the ratio of the clocks, and the check the
position of the GPU. -/
theorem invKeptByStep : Obligations.InvKeptByStep := by
  intro s t hs h
  obtain ⟨i, v, n, he, -, -, hcycles, rfl⟩ := step_effect h
  have hscan : GpuScan v.gpu := by
    refine ⟨?_, ?_, ?_⟩
    · rw [he.line, he.mode]; exact hs.lineMode
    · rw [he.line]; exact hs.line
    · rw [he.frameBuffer]; exact hs.frame
  obtain ⟨hlineMode, hline, hframe⟩ :=
    Gpu.check_scan v.mem (g := v.gpu.advance (cyclesCharged i v.notTaken / 4)) ⟨hscan.lineMode, hscan.line, hscan.frame⟩
  exact {
    lowNibble := he.lowNibble hs.lowNibble
    notTaken := rfl
    clocks := by
      have hratio := hs.clocks
      rw [account_mClock, account_tClock, he.mClock, he.tClock, hcycles]
      omega
    modeClock := Gpu.check_modeClock_lt _ _
    lineMode := hlineMode
    line := hline
    frame := hframe
    mem := he.memWf hs.mem
    bios := by rw [account_bios, he.bios]; exact hs.bios }

/-- Settles O13: the effect of no instruction reaches ROM, the BIOS or the overlay bit once it is clear, and the accounting
touches none of them. -/
theorem romFixedAndOverlayStaysOff : Obligations.RomFixedAndOverlayStaysOff := by
  intro s t h
  obtain ⟨i, v, n, he, -, -, -, rfl⟩ := step_effect h
  exact ⟨he.rom, he.bios, he.overlay⟩

/-- Settles O14: only the accounting moves the clocks and the frame count, by the charge and by one check. -/
theorem stepAdvancesClocks : Obligations.StepAdvancesClocks := by
  intro s t h
  obtain ⟨i, v, n, he, hlow, hhigh, hcycles, rfl⟩ := step_effect h
  refine ⟨⟨n, hlow, hhigh, ?_, ?_⟩, he.serial, ?_⟩
  · rw [account_tClock, hcycles, he.tClock]; omega
  · rw [account_mClock, hcycles, he.mClock]
  · rw [← he.frameCount]
    exact Gpu.check_frameCount _ _

end Sys2Proof.Machine
end

section
/-! The frame of every instruction (R23 to R36, R67, R69, R125, R126, R150): what an instruction may write, as one footprint, the
small rules by which a change of the state stays within a footprint, and each form of the instruction set within its own. -/

namespace Sys2Proof.Machine

open Sys2Proof

/-! ### Bus writes, the serial output and the overlay bit -/

/-- Only a write to 0xFF01 appends to the serial output (R67). -/
theorem memWrite_serialOut {s t : State} {addr : Word} {v : Byte} (h : memWrite s addr v = .ok t) (hne : addr ≠ 0xFF01) :
    t.serialOut = s.serialOut := by
  rcases memWrite_cases s addr v with ⟨_, _, _, _, h'⟩ | ⟨_, _, _, _, h'⟩ | ⟨_, h'⟩ | ⟨hd, _⟩ | ⟨_, h'⟩ | ⟨_, _, h'⟩ |
    ⟨_, h'⟩
  case inr.inr.inr.inl =>
    have hans := busDecode_answers s.biosMapped addr
    rw [hd] at hans
    cases hans with
    | serialData haddr => exact absurd (BitVec.eq_of_toNat_eq haddr) hne
  all_goals rw [h] at h'; cases h'
  case inr.inr.inr.inr.inl => split <;> rfl
  all_goals rfl

/-- Only a write to 0xFF50 changes the overlay bit (R69). -/
theorem memWrite_biosMapped {s t : State} {addr : Word} {v : Byte} (h : memWrite s addr v = .ok t) (hne : addr ≠ 0xFF50) :
    t.biosMapped = s.biosMapped := by
  rcases memWrite_cases s addr v with ⟨_, _, _, _, h'⟩ | ⟨_, _, _, _, h'⟩ | ⟨_, h'⟩ | ⟨_, h'⟩ | ⟨hd, _⟩ | ⟨_, _, h'⟩ |
    ⟨_, h'⟩
  case inr.inr.inr.inr.inl =>
    have hans := busDecode_answers s.biosMapped addr
    rw [hd] at hans
    cases hans with
    | biosLatch haddr => exact absurd (BitVec.eq_of_toNat_eq haddr) hne
  all_goals rw [h] at h'; cases h'
  all_goals rfl

/-! ### The bits a flag write reaches -/

/-- The bits a flag write reaches: those of the flags that are given a value. -/
def flagMask (z n h c : Option Bool) : Byte :=
  (if z.isSome then 0x80 else 0) ||| (if n.isSome then 0x40 else 0) ||| (if h.isSome then 0x20 else 0) |||
    (if c.isSome then 0x10 else 0)

theorem putFlag_outside {mask kept f : Byte} {v : Option Bool} (h : (if v.isSome then mask else 0) &&& kept = 0#8) :
    putFlag mask v f &&& kept = f &&& kept := by
  rcases v with _ | _ | _
  · rfl
  all_goals
    ext j hj
    have hbit : (mask &&& kept)[j] = false := by rw [show mask &&& kept = 0#8 from h, BitVec.getElem_zero]
    rw [BitVec.getElem_and] at hbit
    rw [BitVec.getElem_and, BitVec.getElem_and, putFlag_getElem]
    cases hkept : kept[j] <;> simp_all

/-- A flag write leaves the bits of F outside its mask. -/
theorem State.setFlags_outside (s : State) (z n h c : Option Bool) :
    (s.setFlags z n h c).f &&& ~~~flagMask z n h c = s.f &&& ~~~flagMask z n h c := by
  have hm : flagMask z n h c &&& ~~~flagMask z n h c = 0#8 := BitVec.and_not_self _
  generalize ~~~flagMask z n h c = kept at hm
  simp only [flagMask, BitVec.and_or_distrib_right, BitVec.or_eq_zero_iff] at hm
  obtain ⟨⟨⟨hz, hn⟩, hh⟩, hc⟩ := hm
  rw [State.setFlags, putFlag_outside hc, putFlag_outside hh, putFlag_outside hn, putFlag_outside hz]

/-! ### Footprints -/

/-- What a change of the state may write of the parts that some instruction writes: registers, bits of F, the other parts of the
CPU, and the addresses of stores. -/
structure Footprint where
  regs : Reg8 → Bool
  flags : Byte
  sp : Bool
  pc : Bool
  ime : Bool
  halted : Bool
  notTaken : Bool
  stores : List Word

/-- The change from `s` to `t` writes nothing outside the footprint `w`. -/
structure Within (w : Footprint) (s t : State) : Prop where
  reg : ∀ r, w.regs r = false → t.reg r = s.reg r
  f : t.f &&& ~~~w.flags = s.f &&& ~~~w.flags
  sp : w.sp = false → t.sp = s.sp
  pc : w.pc = false → t.pc = s.pc
  ime : w.ime = false → t.ime = s.ime
  halted : w.halted = false → t.halted = s.halted
  notTaken : w.notTaken = false → t.notTaken = s.notTaken
  serialOut : 0xFF01 ∉ w.stores → t.serialOut = s.serialOut
  biosMapped : 0xFF50 ∉ w.stores → t.biosMapped = s.biosMapped

/-- The footprint lets a pair or SP be written. -/
def Footprint.setsPair (w : Footprint) (p : Pair) : Bool :=
  match p with
  | .bc => w.regs .b && w.regs .c
  | .de => w.regs .d && w.regs .e
  | .hl => w.regs .h && w.regs .l
  | .sp => w.sp

/-- The footprint lets a pair of the `rp2` coding be written; a write of AF writes all of F (R196). -/
def Footprint.setsStackPair (w : Footprint) (p : StackPair) : Bool :=
  match p with
  | .bc => w.regs .b && w.regs .c
  | .de => w.regs .d && w.regs .e
  | .hl => w.regs .h && w.regs .l
  | .af => w.regs .a && w.flags == 0xFF

section
variable {w : Footprint} {s t u : State}

theorem Within.refl (w : Footprint) (s : State) : Within w s s := by
  constructor <;> intros <;> rfl

theorem Within.trans (h : Within w s t) (h' : Within w t u) : Within w s u where
  reg r hr := (h'.reg r hr).trans (h.reg r hr)
  f := h'.f.trans h.f
  sp hw := (h'.sp hw).trans (h.sp hw)
  pc hw := (h'.pc hw).trans (h.pc hw)
  ime hw := (h'.ime hw).trans (h.ime hw)
  halted hw := (h'.halted hw).trans (h.halted hw)
  notTaken hw := (h'.notTaken hw).trans (h.notTaken hw)
  serialOut hw := (h'.serialOut hw).trans (h.serialOut hw)
  biosMapped hw := (h'.biosMapped hw).trans (h.biosMapped hw)

/-! ### Writes of the CPU's parts -/

theorem Within.setReg {r : Reg8} (hw : w.regs r = true) (s : State) (v : Byte) : Within w s (s.setReg r v) where
  reg q hq := by
    have hne : q ≠ r := fun heq => by simp [heq, hw] at hq
    rw [State.reg_setReg, if_neg hne]
  f := by rw [State.setReg_keeps_f]
  sp _ := State.setReg_keeps_sp s r v
  pc _ := State.setReg_keeps_pc s r v
  ime _ := State.setReg_keeps_ime s r v
  halted _ := State.setReg_keeps_halted s r v
  notTaken _ := State.setReg_keeps_notTaken s r v
  serialOut _ := State.setReg_keeps_serialOut s r v
  biosMapped _ := State.setReg_keeps_biosMapped s r v

/-- A flag write, the bits it reaches given as a literal. -/
theorem Within.setFlags {z n h c : Option Bool} (mask : Byte) (hw : w.flags = mask) (s : State)
    (hmask : flagMask z n h c = mask := by simp [flagMask]) : Within w s (s.setFlags z n h c) where
  reg r _ := State.setFlags_keeps_reg s z n h c r
  f := by rw [hw, ← hmask]; exact State.setFlags_outside s z n h c
  sp _ := rfl
  pc _ := rfl
  ime _ := rfl
  halted _ := rfl
  notTaken _ := rfl
  serialOut _ := rfl
  biosMapped _ := rfl

theorem Within.setF (hw : w.flags = 0xFF) (s : State) (v : Byte) : Within w s { s with f := v } where
  reg _ _ := rfl
  f := by rw [hw, show ~~~(0xFF : Byte) = 0#8 from rfl, BitVec.and_zero, BitVec.and_zero]
  sp _ := rfl
  pc _ := rfl
  ime _ := rfl
  halted _ := rfl
  notTaken _ := rfl
  serialOut _ := rfl
  biosMapped _ := rfl

/-- A change of the parts of the CPU other than the registers and F. -/
theorem Within.control {sp pc : Word} {ime halted notTaken : Bool} (hsp : w.sp = false → sp = s.sp)
    (hpc : w.pc = false → pc = s.pc) (hime : w.ime = false → ime = s.ime) (hhalted : w.halted = false → halted = s.halted)
    (hnotTaken : w.notTaken = false → notTaken = s.notTaken) :
    Within w s { s with sp := sp, pc := pc, ime := ime, halted := halted, notTaken := notTaken } where
  reg _ _ := rfl
  f := rfl
  sp := hsp
  pc := hpc
  ime := hime
  halted := hhalted
  notTaken := hnotTaken
  serialOut _ := rfl
  biosMapped _ := rfl

theorem Within.setSp (hw : w.sp = true) (s : State) (v : Word) : Within w s { s with sp := v } :=
  Within.control (by simp [hw]) (fun _ => rfl) (fun _ => rfl) (fun _ => rfl) (fun _ => rfl)

theorem Within.setPc (hw : w.pc = true) (s : State) (v : Word) : Within w s { s with pc := v } :=
  Within.control (fun _ => rfl) (by simp [hw]) (fun _ => rfl) (fun _ => rfl) (fun _ => rfl)

theorem Within.setIme (hw : w.ime = true) (s : State) (v : Bool) : Within w s { s with ime := v } :=
  Within.control (fun _ => rfl) (fun _ => rfl) (by simp [hw]) (fun _ => rfl) (fun _ => rfl)

theorem Within.setHalted (hw : w.halted = true) (s : State) (v : Bool) : Within w s { s with halted := v } :=
  Within.control (fun _ => rfl) (fun _ => rfl) (fun _ => rfl) (by simp [hw]) (fun _ => rfl)

theorem Within.setNotTaken (hw : w.notTaken = true) (s : State) (v : Bool) : Within w s { s with notTaken := v } :=
  Within.control (fun _ => rfl) (fun _ => rfl) (fun _ => rfl) (fun _ => rfl) (by simp [hw])

theorem Within.setPair {p : Pair} (hw : w.setsPair p = true) (s : State) (v : Word) : Within w s (s.setPair p v) := by
  cases p <;> simp only [Footprint.setsPair, Bool.and_eq_true] at hw
  case bc => exact (Within.setReg hw.1 s (hi v)).trans (Within.setReg hw.2 _ (lo v))
  case de => exact (Within.setReg hw.1 s (hi v)).trans (Within.setReg hw.2 _ (lo v))
  case hl => exact (Within.setReg hw.1 s (hi v)).trans (Within.setReg hw.2 _ (lo v))
  case sp => exact Within.setSp hw s v

theorem Within.setHl (hw : w.setsPair .hl = true) (s : State) (v : Word) : Within w s (s.setHl v) :=
  Within.setPair (p := .hl) hw s v

theorem Within.setStackPair {p : StackPair} (hw : w.setsStackPair p = true) (s : State) (v : Word) :
    Within w s (s.setStackPair p v) := by
  cases p
  case bc => exact Within.setPair (p := .bc) hw s v
  case de => exact Within.setPair (p := .de) hw s v
  case hl => exact Within.setPair (p := .hl) hw s v
  case af =>
    simp only [Footprint.setsStackPair, Bool.and_eq_true, beq_iff_eq] at hw
    exact (Within.setReg hw.1 s (hi v)).trans (Within.setF hw.2 _ (lo v &&& 0xF0))

/-! ### Stores and the stack -/

theorem memWrite_within {addr : Word} {v : Byte} (hw : addr ∈ w.stores) (h : memWrite s addr v = .ok t) : Within w s t where
  reg r _ := (memWrite_frame h).reg r
  f := by rw [(memWrite_frame h).f]
  sp _ := (memWrite_frame h).sp
  pc _ := (memWrite_frame h).pc
  ime _ := (memWrite_frame h).ime
  halted _ := (memWrite_frame h).halted
  notTaken _ := (memWrite_frame h).notTaken
  serialOut hne := memWrite_serialOut h fun heq => hne (heq ▸ hw)
  biosMapped hne := memWrite_biosMapped h fun heq => hne (heq ▸ hw)

theorem push16_within {v : Word} (hsp : w.sp = true) (hw : w.stores = Safety.pushAddrs s) (h : push16 v s = .ok () t) :
    Within w s t := by
  obtain ⟨u, hu, ht⟩ := push16_ok.mp h
  have hsp2 : u.sp - 1 = s.sp - 2 := by
    rw [(memWrite_frame hu).sp]
    simp only [BitVec.sub_sub]
    rfl
  have hhigh : s.sp - 1 ∈ w.stores := by simp [hw, Safety.pushAddrs]
  have hlow : u.sp - 1 ∈ w.stores := by rw [hsp2]; simp [hw, Safety.pushAddrs]
  exact (((Within.setSp hsp s _).trans (memWrite_within hhigh hu)).trans (Within.setSp hsp u _)).trans
    (memWrite_within hlow ht)

theorem pop16_within {v : Word} (hsp : w.sp = true) (h : pop16 s = .ok v t) : Within w s t := by
  obtain ⟨_, _, _, _, _, rfl⟩ := pop16_ok.mp h
  exact Within.setSp hsp s _

theorem call_within {target : Word} (hsp : w.sp = true) (hpc : w.pc = true) (hw : w.stores = Safety.pushAddrs s)
    (h : call target s = .ok () t) : Within w s t := by
  obtain ⟨u, hu, rfl⟩ := call_ok.mp h
  exact (push16_within hsp hw hu).trans (Within.setPc hpc u _)

theorem ret_within (hsp : w.sp = true) (hpc : w.pc = true) (h : ret s = .ok () t) : Within w s t := by
  obtain ⟨v, u, hu, rfl⟩ := ret_ok.mp h
  exact (pop16_within hsp hu).trans (Within.setPc hpc u _)

/-! ### The operand forms -/

theorem next_within (hu : Within w s u) (h : (.next u : Step) = .next t) : Within w s t := by
  cases h
  exact hu

theorem fromReg_within {update : Byte → State → State} {r : Reg8} (hu : ∀ v, Within w s (update v s))
    (h : fromReg update r s = .next t) : Within w s t := next_within (hu _) h

theorem fromImm_within {update : Byte → State → State} {n : Byte} (hu : ∀ v, Within w s (update v s))
    (h : fromImm update n s = .next t) : Within w s t := next_within (hu _) h

theorem fromMem_within {update : Byte → State → State} {addr : Word} (hu : ∀ v, Within w s (update v s))
    (h : fromMem update addr s = .next t) : Within w s t := by
  obtain ⟨v, _, rfl⟩ := fromMem_next.mp h
  exact hu v

theorem modifyReg_within {change : Byte → State → Byte × State} {r : Reg8} (hc : ∀ v, Within w s (change v s).2)
    (hr : w.regs r = true) (h : modifyReg change r s = .next t) : Within w s t :=
  next_within ((hc _).trans (Within.setReg hr _ _)) h

/-- A read-modify-write of the byte at HL stores where it read: its change of the state does not reach HL. -/
theorem modifyAtHl_within {change : Byte → State → Byte × State} (hc : ∀ v, Within w s (change v s).2)
    (hhl : ∀ v, (change v s).2.hl = s.hl) (hw : s.hl ∈ w.stores) (h : modifyAtHl change s = .next t) : Within w s t := by
  obtain ⟨v, _, ht⟩ := modifyAtHl_next.mp h
  exact (hc v).trans (memWrite_within (hhl v ▸ hw) ht)

theorem storeMem_within {addr : Word} {v : Byte} (hw : addr ∈ w.stores) (h : storeMem addr v s = .next t) : Within w s t :=
  memWrite_within hw (storeMem_next.mp h)

theorem storeThenHl_within {delta : Word} (hr : w.setsPair .hl = true) (hw : s.hl ∈ w.stores)
    (h : storeThenHl delta s = .next t) : Within w s t := by
  obtain ⟨u, hu, rfl⟩ := storeThenHl_next.mp h
  exact (memWrite_within hw hu).trans (Within.setHl hr u _)

theorem loadThenHl_within {delta : Word} (ha : w.regs .a = true) (hr : w.setsPair .hl = true)
    (h : loadThenHl delta s = .next t) : Within w s t := by
  obtain ⟨v, _, rfl⟩ := loadThenHl_next.mp h
  exact (Within.setReg ha s v).trans (Within.setHl hr _ _)

theorem storeSp_within {nn : Word} (hlow : nn ∈ w.stores) (hhigh : nn + 1 ∈ w.stores) (h : storeSp nn s = .next t) :
    Within w s t := by
  obtain ⟨u, hu, ht⟩ := storeSp_next.mp h
  exact (memWrite_within hlow hu).trans (memWrite_within hhigh ht)

theorem popInto_within {p : StackPair} (hsp : w.sp = true) (hp : w.setsStackPair p = true) (h : popInto p s = .next t) :
    Within w s t := by
  obtain ⟨v, u, hu, rfl⟩ := popInto_next.mp h
  exact (pop16_within hsp hu).trans (Within.setStackPair hp u v)

/-- The condition of the model is that of R277. -/
theorem condHolds_eq_condition (cc : Cond) (s : State) : condHolds cc s = Safety.condition cc s.f := by
  simp only [condHolds, Safety.condition, State.flagZ, State.flagC]
  generalize s.f = f
  revert f
  cases cc <;> decide

theorem ifCond_within {cc : Cond} {taken : State → Res Unit} (hw : w.notTaken = true)
    (ht : Safety.condition cc s.f = true → taken s = .ok () t → Within w s t) (h : ifCond cc taken s = .next t) :
    Within w s t := by
  rcases ifCond_next.mp h with ⟨hcond, h⟩ | ⟨_, rfl⟩
  · exact ht (condHolds_eq_condition cc s ▸ hcond) h
  · exact Within.setNotTaken hw s true

/-! ### The updates of the forms -/

/-- A flag write, then a write of a register. -/
theorem Within.flagsThenReg {z n h c : Option Bool} {r : Reg8} (mask : Byte) (hf : w.flags = mask) (hr : w.regs r = true)
    (s : State) (v : Byte) (hmask : flagMask z n h c = mask := by simp [flagMask]) :
    Within w s ((s.setFlags z n h c).setReg r v) := (Within.setFlags mask hf s hmask).trans (Within.setReg hr _ v)

/-- A flag write, then a write of HL. -/
theorem Within.flagsThenHl {z n h c : Option Bool} (mask : Byte) (hf : w.flags = mask) (hr : w.setsPair .hl = true)
    (s : State) (v : Word) (hmask : flagMask z n h c = mask := by simp [flagMask]) :
    Within w s ((s.setFlags z n h c).setHl v) := (Within.setFlags mask hf s hmask).trans (Within.setHl hr _ v)

/-- An accumulator operation writes A, unless it is CP, and the four flags (R238). -/
theorem aluUpdate_within {op : AluOp} (hf : w.flags = 0xF0) (ha : w.regs .a = (op != .cp)) (v : Byte) (s : State) :
    Within w s (aluUpdate op v s) := by
  cases op
  case cp => exact Within.setFlags 0xF0 hf s
  all_goals
    dsimp only [aluUpdate, addA, adcA, subA, sbcA, andA, xorA, orA, subIn, addIn, adcIn, sbcIn, subFlagsIn]
    exact Within.flagsThenReg 0xF0 hf ha s _

/-! INC, DEC and BIT write Z, N and H (R234, R236, R306); RES and SET write no flag (R308, R310); the rotates and shifts write
the four flags (R264, R313). -/

theorem incByte_within (hf : w.flags = 0xE0) (v : Byte) (s : State) : Within w s (incByte v s).2 := Within.setFlags 0xE0 hf s
theorem decByte_within (hf : w.flags = 0xE0) (v : Byte) (s : State) : Within w s (decByte v s).2 := Within.setFlags 0xE0 hf s
theorem testBit_within (hf : w.flags = 0xE0) (n : BitVec 3) (v : Byte) (s : State) : Within w s (testBit n v s) :=
  Within.setFlags 0xE0 hf s
theorem clearBit_within (w : Footprint) (n : BitVec 3) (v : Byte) (s : State) : Within w s (clearBit n v s).2 :=
  Within.refl w s
theorem setBit_within (w : Footprint) (n : BitVec 3) (v : Byte) (s : State) : Within w s (setBit n v s).2 :=
  Within.refl w s
theorem rotate_within (hf : w.flags = 0xF0) (k : RotKind) (v : Byte) (s : State) : Within w s (rotate k v s).2 :=
  Within.setFlags 0xF0 hf s
theorem rotateA_within (hf : w.flags = 0xF0) (ha : w.regs .a = true) (k : RotKind) (s : State) :
    Within w s (rotateA k s) := by
  dsimp only [rotateA, rotateAIn]
  exact Within.flagsThenReg 0xF0 hf ha s _

/-- DAA writes A, Z, H and C (R258). -/
theorem decimalAdjust_within (hf : w.flags = 0xB0) (ha : w.regs .a = true) (s : State) : Within w s (decimalAdjust s) := by
  dsimp only [decimalAdjust]
  exact Within.flagsThenReg 0xB0 hf ha s _

end

/-! ### What each instruction may write -/

/-- The instructions that write IME (R29). -/
def writesIme (i : Instr) : Bool :=
  match i with
  | .di | .ei | .reti => true
  | _ => false

/-- The instructions that write `halted` (R30). -/
def writesHalted (i : Instr) : Bool :=
  match i with
  | .halt | .stop _ => true
  | _ => false

/-- Only DI, EI and RETI have IME in their footprint (R29). -/
theorem writesIme_eq_false {i : Instr} (hdi : i ≠ .di) (hei : i ≠ .ei) (hreti : i ≠ .reti) : writesIme i = false := by
  unfold writesIme
  split
  · exact absurd rfl hdi
  · exact absurd rfl hei
  · exact absurd rfl hreti
  · rfl

/-- Only HALT and STOP have `halted` in their footprint (R30). -/
theorem writesHalted_eq_false {i : Instr} (hhalt : i ≠ .halt) (hstop : ∀ n, i ≠ .stop n) : writesHalted i = false := by
  unfold writesHalted
  split
  · exact absurd rfl hhalt
  · exact absurd rfl (hstop _)
  · rfl

/-- What an instruction may write, in the terms the statements name it in. -/
def footprint (i : Instr) (s : State) : Footprint where
  regs r := decide (r ∈ Safety.regsWritten i)
  flags := Safety.flagsWritten i
  sp := decide (Safety.firstByte i ∈ Safety.spWriters)
  pc := decide (Safety.firstByte i ∈ Safety.pcWriters)
  ime := writesIme i
  halted := writesHalted i
  notTaken := (cost i).notTaken.isSome
  stores := Safety.storeAddrs i s

/-- The instruction's effect writes nothing outside its footprint. -/
def KeepsFootprint (i : Instr) : Prop := ∀ s t : State, exec i s = .next t → Within (footprint i s) s t

theorem load_within : LoadForms KeepsFootprint where
  ldRegReg r q s _ h :=
    fromReg_within (Within.setReg (by cases r <;> cases q <;> rfl) s) (exec_ldRegReg r q s ▸ h)
  ldRegImm r n s _ h := fromImm_within (Within.setReg (by cases r <;> rfl) s) (exec_ldRegImm r n s ▸ h)
  ldRegAtHl r s _ h := fromMem_within (Within.setReg (by cases r <;> rfl) s) (exec_ldRegAtHl r s ▸ h)
  ldAtHlReg r s _ h := storeMem_within (by cases r <;> exact .head _) (exec_ldAtHlReg r s ▸ h)
  ldAtHlImm n s _ h := storeMem_within (.head _) h
  ldAAtBc s _ h := fromMem_within (Within.setReg rfl s) h
  ldAAtDe s _ h := fromMem_within (Within.setReg rfl s) h
  ldAtBcA s _ h := storeMem_within (.head _) h
  ldAtDeA s _ h := storeMem_within (.head _) h
  ldAAtImm16 nn s _ h := fromMem_within (Within.setReg rfl s) h
  ldAtImm16A nn s _ h := storeMem_within (.head _) h
  ldhAAtImm n s _ h := fromMem_within (Within.setReg rfl s) h
  ldhAtImmA n s _ h := storeMem_within (.head _) h
  ldAAtC s _ h := fromMem_within (Within.setReg rfl s) h
  ldAtCA s _ h := storeMem_within (.head _) h
  ldAtHlIncA s _ h := storeThenHl_within rfl (.head _) h
  ldAtHlDecA s _ h := storeThenHl_within rfl (.head _) h
  ldAAtHlInc s _ h := loadThenHl_within rfl rfl h
  ldAAtHlDec s _ h := loadThenHl_within rfl rfl h
  ldPairImm16 p nn s _ h := next_within (Within.setPair (by cases p <;> rfl) s nn) (exec_ldPairImm16 p nn s ▸ h)
  ldAtImm16Sp nn s _ h := storeSp_within (.head _) (.tail _ (.head _)) h
  ldSpHl s _ h := next_within (Within.setSp rfl s _) h
  ldHlSpRel n s _ h := next_within (Within.flagsThenHl 0xF0 rfl rfl s _) h
  pushPair p s _ h :=
    push16_within (by cases p <;> rfl) (by cases p <;> rfl) (Res.outcome_next.mp (exec_pushPair p s ▸ h))
  popPair p s _ h := popInto_within (by cases p <;> rfl) (by cases p <;> rfl) (exec_popPair p s ▸ h)

theorem arithmetic_within : ArithmeticForms KeepsFootprint where
  aluReg op r s _ h := fromReg_within
    (aluUpdate_within (by cases op <;> cases r <;> rfl) (by cases op <;> cases r <;> rfl) · s)
    (exec_aluReg op r s ▸ h)
  aluImm op n s _ h := fromImm_within
    (aluUpdate_within (by cases op <;> rfl) (by cases op <;> rfl) · s) (exec_aluImm op n s ▸ h)
  aluAtHl op s _ h := fromMem_within
    (aluUpdate_within (by cases op <;> rfl) (by cases op <;> rfl) · s) (exec_aluAtHl op s ▸ h)
  incReg r s _ h :=
    modifyReg_within (incByte_within (by cases r <;> rfl) · s) (by cases r <;> rfl) (exec_incReg r s ▸ h)
  decReg r s _ h :=
    modifyReg_within (decByte_within (by cases r <;> rfl) · s) (by cases r <;> rfl) (exec_decReg r s ▸ h)
  incAtHl s _ h := modifyAtHl_within (incByte_within rfl · s) (fun _ => rfl) (.head _) h
  decAtHl s _ h := modifyAtHl_within (decByte_within rfl · s) (fun _ => rfl) (.head _) h
  addHlPair p s _ h := next_within
    (Within.flagsThenHl 0x70 (by cases p <;> rfl) (by cases p <;> rfl) s _) (exec_addHlPair p s ▸ h)
  addSpRel n s _ h := next_within ((Within.setFlags 0xF0 rfl s).trans (Within.setSp rfl _ _)) h
  incPair p s _ h := next_within (Within.setPair (by cases p <;> rfl) s _) (exec_incPair p s ▸ h)
  decPair p s _ h := next_within (Within.setPair (by cases p <;> rfl) s _) (exec_decPair p s ▸ h)
  rlca s _ h := next_within (rotateA_within rfl rfl .rlc s) h
  rrca s _ h := next_within (rotateA_within rfl rfl .rrc s) h
  rla s _ h := next_within (rotateA_within rfl rfl .rl s) h
  rra s _ h := next_within (rotateA_within rfl rfl .rr s) h
  daa s _ h := next_within (decimalAdjust_within rfl rfl s) h
  cpl s _ h := next_within
    ((Within.setReg (r := .a) rfl s (s.a ^^^ 0xFF)).trans (Within.setFlags (n := some true) (h := some true) 0x60 rfl _)) h
  scf s _ h := next_within (Within.setFlags 0x70 rfl s) h
  ccf s _ h := next_within (Within.setFlags 0x70 rfl s) h
  nop s _ h := next_within (Within.refl _ s) h

theorem footprint_rstTo (y : BitVec 3) (s : State) : (footprint (.rstTo y) s).sp = true ∧
    (footprint (.rstTo y) s).pc = true ∧ (footprint (.rstTo y) s).stores = Safety.pushAddrs s := by
  rcases index_cases y with rfl | rfl | rfl | rfl | rfl | rfl | rfl | rfl <;> exact ⟨rfl, rfl, rfl⟩

/-- The effect of an unassigned byte never answers (R325). -/
theorem exec_unassigned_ne_next {op : Byte} {i : Instr} {s t : State} (h : (op, i) ∈ Safety.unassignedRows) :
    exec i s ≠ .next t := by
  simp only [Safety.unassignedRows, List.mem_cons, Prod.mk.injEq, List.not_mem_nil, or_false] at h
  rcases h with ⟨_, rfl⟩ | ⟨_, rfl⟩ | ⟨_, rfl⟩ | ⟨_, rfl⟩ | ⟨_, rfl⟩ | ⟨_, rfl⟩ | ⟨_, rfl⟩ | ⟨_, rfl⟩ | ⟨_, rfl⟩ |
    ⟨_, rfl⟩ | ⟨_, rfl⟩ <;> intro hnext <;> cases hnext

theorem control_within : ControlForms KeepsFootprint where
  jpImm16 nn s _ h := next_within (Within.setPc rfl s nn) h
  jpHl s _ h := next_within (Within.setPc rfl s _) h
  jrRel n s _ h := next_within (Within.setPc rfl s _) h
  jpCond cc nn s _ h := ifCond_within (by cases cc <;> rfl)
    (fun _ h => by cases h; exact Within.setPc (by cases cc <;> rfl) s nn) (exec_jpCond cc nn s ▸ h)
  jrCond cc n s _ h := ifCond_within (by cases cc <;> rfl)
    (fun _ h => by cases h; exact Within.setPc (by cases cc <;> rfl) s _) (exec_jrCond cc n s ▸ h)
  callImm16 nn s _ h := call_within rfl rfl rfl (Res.outcome_next.mp h)
  callCond cc nn s _ h := ifCond_within (by cases cc <;> rfl)
    (fun hcond => call_within (by cases cc <;> rfl) (by cases cc <;> rfl) (by cases cc <;> exact if_pos hcond))
    (exec_callCond cc nn s ▸ h)
  rstTo y s _ h := by
    obtain ⟨hsp, hpc, hstores⟩ := footprint_rstTo y s
    exact call_within hsp hpc hstores (Res.outcome_next.mp (exec_rstTo y s ▸ h))
  ret s _ h := ret_within rfl rfl (Res.outcome_next.mp h)
  retCond cc s _ h := ifCond_within (by cases cc <;> rfl)
    (fun _ => ret_within (by cases cc <;> rfl) (by cases cc <;> rfl)) (exec_retCond cc s ▸ h)
  reti s _ h := by
    obtain ⟨_, u, hu, ht⟩ := Res.andThen_ok.mp (Res.outcome_next.mp h)
    cases ht
    exact (ret_within rfl rfl hu).trans (Within.setIme rfl u true)
  halt s _ h := next_within (Within.setHalted rfl s true) h
  stop n s _ h := next_within (Within.setHalted rfl s true) h
  di s _ h := next_within (Within.setIme rfl s false) h
  ei s _ h := next_within (Within.setIme rfl s true) h
  unassigned _ _ hrow _ _ h := absurd h (exec_unassigned_ne_next hrow)

/-! The CB-extended rows, by their kind or bit index and their operand. -/

section
variable (k : RotKind) (n : BitVec 3) (r : Reg8) (s : State)

theorem footprint_rotReg : (footprint (.rotReg k r) s).flags = 0xF0 ∧ (footprint (.rotReg k r) s).regs r = true := by
  cases k <;> cases r <;> exact ⟨rfl, rfl⟩
theorem footprint_rotAtHl : (footprint (.rotAtHl k) s).flags = 0xF0 ∧ (footprint (.rotAtHl k) s).stores = [s.hl] := by
  cases k <;> exact ⟨rfl, rfl⟩
theorem footprint_bitReg : (footprint (.bitReg n r) s).flags = 0xE0 := by
  rcases index_cases n with rfl | rfl | rfl | rfl | rfl | rfl | rfl | rfl <;> cases r <;> rfl
theorem footprint_bitAtHl : (footprint (.bitAtHl n) s).flags = 0xE0 := by
  rcases index_cases n with rfl | rfl | rfl | rfl | rfl | rfl | rfl | rfl <;> rfl
theorem footprint_resReg : (footprint (.resReg n r) s).regs r = true := by
  rcases index_cases n with rfl | rfl | rfl | rfl | rfl | rfl | rfl | rfl <;> cases r <;> rfl
theorem footprint_resAtHl : (footprint (.resAtHl n) s).stores = [s.hl] := by
  rcases index_cases n with rfl | rfl | rfl | rfl | rfl | rfl | rfl | rfl <;> rfl
theorem footprint_setReg : (footprint (.setReg n r) s).regs r = true := by
  rcases index_cases n with rfl | rfl | rfl | rfl | rfl | rfl | rfl | rfl <;> cases r <;> rfl
theorem footprint_setAtHl : (footprint (.setAtHl n) s).stores = [s.hl] := by
  rcases index_cases n with rfl | rfl | rfl | rfl | rfl | rfl | rfl | rfl <;> rfl

end

theorem cb_within : CbForms KeepsFootprint where
  rotReg k r s _ h := modifyReg_within (rotate_within (footprint_rotReg k r s).1 k · s) (footprint_rotReg k r s).2
    (exec_rotReg k r s ▸ h)
  rotAtHl k s _ h := modifyAtHl_within (rotate_within (footprint_rotAtHl k s).1 k · s) (fun _ => rfl)
    (by simp [footprint_rotAtHl k s]) (exec_rotAtHl k s ▸ h)
  bitReg n r s _ h := fromReg_within (testBit_within (footprint_bitReg n r s) n · s) (exec_bitReg n r s ▸ h)
  bitAtHl n s _ h := fromMem_within (testBit_within (footprint_bitAtHl n s) n · s) (exec_bitAtHl n s ▸ h)
  resReg n r s _ h := modifyReg_within (clearBit_within _ n · s) (footprint_resReg n r s) (exec_resReg n r s ▸ h)
  resAtHl n s _ h := modifyAtHl_within (clearBit_within _ n · s) (fun _ => rfl) (by simp [footprint_resAtHl n s])
    (exec_resAtHl n s ▸ h)
  setReg n r s _ h := modifyReg_within (setBit_within _ n · s) (footprint_setReg n r s) (exec_setReg n r s ▸ h)
  setAtHl n s _ h := modifyAtHl_within (setBit_within _ n · s) (fun _ => rfl) (by simp [footprint_setAtHl n s])
    (exec_setAtHl n s ▸ h)

/-- No instruction's effect writes outside the instruction's footprint. -/
theorem exec_within {i : Instr} {s t : State} (h : exec i s = .next t) : Within (footprint i s) s t :=
  Instr.of_forms (P := KeepsFootprint) load_within arithmetic_within control_within cb_within i s t h

/-! ### The statements -/

/-- Settles O54: the registers, the bits of F, SP and PC outside the footprint, which names them by the encoding. -/
theorem frameOfRegisters : Obligations.FrameOfRegisters := by
  intro i s t h
  have hw := exec_within h
  exact ⟨fun r hr => hw.reg r (decide_eq_false hr), hw.f, fun hsp => hw.sp (decide_eq_false hsp),
    fun hpc => hw.pc (decide_eq_false hpc)⟩

/-- Settles O56: what no effect touches (`exec_effect`), then IME, `halted`, `notTaken`, the serial output and the overlay bit
outside the footprint. -/
theorem frameOfSpecialState : Obligations.FrameOfSpecialState := by
  intro i s t h
  have he := exec_effect h
  have hw := exec_within h
  exact ⟨⟨he.fault, he.mClock, he.tClock, he.bios⟩, ⟨he.mode, he.line, he.modeClock, he.frameBuffer, he.frameCount⟩,
    fun hdi hei hreti => hw.ime (writesIme_eq_false hdi hei hreti),
    fun hhalt hstop => hw.halted (writesHalted_eq_false hhalt hstop),
    fun hcost => hw.notTaken (by simp [footprint, hcost]), hw.serialOut, hw.biosMapped⟩

end Sys2Proof.Machine
end

section
/-! The memory (R50 to R78): every row of the read and of the write decode, what a read gives after a write, the echo and the BIOS
latch. -/

namespace Sys2Proof.Machine

open Sys2Proof

/-! ### The cell that answers an address -/

section
variable {m : Bool} {addr b : Word} {r r' : Region} {a : Nat}

/-- From 0x8000 up to the echo every address is the cell of its own number, in a writable region (R55). -/
theorem Answers.of_writable_plain (low : 0x8000 ≤ addr.toNat) (high : addr.toNat ≤ 0xDFFF) :
    ∃ r, r.readOnly = false ∧ Answers m addr (.stored r addr.toNat) := by
  by_cases hvram : addr.toNat ≤ 0x9FFF
  · exact ⟨.vram, rfl, .vram low hvram⟩
  by_cases heram : addr.toNat ≤ 0xBFFF
  · exact ⟨.eram, rfl, .eram (by omega) heram⟩
  · exact ⟨.wram, rfl, .wram (by omega) high⟩

/-- An address of ROM above the overlay is the cell of its own number in ROM (R55). -/
theorem Answers.of_rom (low : 0x0100 ≤ addr.toNat) (high : addr.toNat ≤ 0x7FFF) :
    ∃ r, r ≠ .bios ∧ Answers m addr (.stored r addr.toNat) := by
  by_cases hrom0 : addr.toNat ≤ 0x3FFF
  · exact ⟨.rom0, by simp, .rom0 hrom0 fun hoverlay => absurd hoverlay.1 (by omega)⟩
  · exact ⟨.rom1, by simp, .rom1 (by omega) high⟩

/-- A RAM address is a cell of a writable region (R55). -/
theorem Answers.of_ramAddress (h : Safety.ramAddress addr = true) :
    ∃ r a, r.readOnly = false ∧ Answers m addr (.stored r a) := by
  simp only [Safety.ramAddress, Bool.or_eq_true, Bool.and_eq_true, decide_eq_true_eq] at h
  by_cases hplain : addr.toNat ≤ 0xDFFF
  · obtain ⟨r, hr, hans⟩ := Answers.of_writable_plain (m := m) (by omega) hplain
    exact ⟨r, _, hr, hans⟩
  by_cases hecho : addr.toNat ≤ 0xFDFF
  · exact ⟨.wram, _, rfl, .echo (by omega) hecho⟩
  by_cases hoam : addr.toNat ≤ 0xFE9F
  · exact ⟨.oam, _, rfl, .oam (by omega) hoam⟩
  · exact ⟨.zram, _, rfl, .zram (by omega)⟩

/-- The cell of an address has the address's number, or 0x2000 less for an echo (R62). -/
theorem Answers.cell_eq (h : Answers m addr (.stored r a)) :
    a = if 0xE000 ≤ addr.toNat ∧ addr.toNat ≤ 0xFDFF then addr.toNat - 0x2000 else addr.toNat := by
  cases h
  case echo low high => exact (if_pos ⟨low, high⟩).symm
  all_goals exact (if_neg (by omega)).symm

/-- Two addresses of one cell name the same byte. -/
theorem sameByte_of_answers (h : Answers m addr (.stored r a)) (h' : Answers m b (.stored r' a)) :
    Safety.sameByte addr b := by
  have hcell := h.cell_eq.symm.trans h'.cell_eq
  unfold Safety.sameByte
  rw [← BitVec.toNat_inj]
  split_ifs at hcell <;> omega

/-- Every region but the BIOS stands in `mem` (R35, R37). -/
theorem State.regionMem_eq_mem (s : State) (hr : r ≠ .bios) : s.regionMem r = s.mem := by
  cases r
  case bios => exact absurd rfl hr
  all_goals rfl

theorem Region.ne_bios_of_writable (hr : r.readOnly = false) : r ≠ .bios := by
  rintro rfl
  cases hr

/-- The overlay matters to the decode only at 0x0000 to 0x00FF (R56). -/
theorem busDecode_of_above_overlay (h : 0x00FF < addr.toNat) (m m' : Bool) : busDecode m addr = busDecode m' addr := by
  have hrow (mapped : Bool) : ¬ (addr.toNat ≤ 0x00FF ∧ mapped = true) := fun hlow => absurd hlow.1 (by omega)
  unfold busDecode busDecodeAt
  rw [if_neg (hrow m), if_neg (hrow m')]

end

/-! ### Reads -/

section
variable {s t : State} {addr b : Word} {v : Byte} {r : Region} {a : Nat}

/-- A read that a cell outside the BIOS answers gives the byte of `mem` (R52). -/
theorem memRead_cell (h : Answers s.biosMapped addr (.stored r a)) (hr : r ≠ .bios) :
    memRead s addr = .ok (Memory.read s.mem a) := by
  rw [memRead_stored h, State.regionMem_eq_mem s hr]

/-- A read of 0x0000 to 0x00FF (R52, R56). -/
theorem memRead_overlay (h : addr.toNat ≤ 0x00FF) :
    memRead s addr = .ok (Memory.read (if s.biosMapped then s.bios else s.mem) addr.toNat) := by
  cases hm : s.biosMapped
  · exact memRead_cell (.rom0 (by omega) (by simp [hm])) (by simp)
  · exact memRead_stored (.bios h hm)

/-- A read of an address below the echo and above the overlay (R52). -/
theorem memRead_plain (low : 0x0100 ≤ addr.toNat) (high : addr.toNat ≤ 0xDFFF) :
    memRead s addr = .ok (Memory.read s.mem addr.toNat) := by
  by_cases hrom : addr.toNat ≤ 0x7FFF
  · obtain ⟨r, hr, hans⟩ := Answers.of_rom low hrom
    exact memRead_cell hans hr
  · obtain ⟨r, hr, hans⟩ := Answers.of_writable_plain (by omega) high
    exact memRead_cell hans (Region.ne_bios_of_writable hr)

/-- A read of 0xFEA0 to 0xFF00 (R64, R70). -/
theorem memRead_unusable (low : 0xFEA0 ≤ addr.toNat) (high : addr.toNat ≤ 0xFF00) : memRead s addr = .ok 0 := by
  unfold memRead
  by_cases hport : addr.toNat = 0xFF00
  · rw [(Answers.inputPort hport).busDecode_eq]
  · rw [(Answers.unusable low (by omega)).busDecode_eq]

theorem memRead_serialControl (h : addr.toNat = 0xFF02) : memRead s addr = .ok Config.serialCtrlRead := by
  unfold memRead
  rw [(Answers.serialControl h).busDecode_eq]
  rfl

/-- An address that the default `GPU_REGS` leaves out answers no access, the latch aside (R72, R340). -/
theorem writeFaults_of_unlisted (low : 0xFF40 ≤ addr.toNat) (high : addr.toNat ≤ 0xFF7F) (hlatch : addr.toNat ≠ 0xFF50)
    (h : gpuRegs addr.toNat = none) : Safety.writeFaults addr = true := by
  rw [writeFaults_iff]
  rcases gpuRegs_cases addr.toNat with ⟨_, h'⟩ | ⟨_, h'⟩ | ⟨_, h'⟩ | ⟨_, h'⟩ | ⟨_, h'⟩ | ⟨_, h'⟩ | ⟨hne, _⟩
  case inr.inr.inr.inr.inr.inr => omega
  all_goals rw [h] at h'; cases h'

/-- Settles O15: the row that answers the address, for each range. -/
theorem busReadByRange : Obligations.BusReadByRange := by
  intro s addr
  refine ⟨fun h hm => ?_, fun h hm => ?_, memRead_plain, fun low high => memRead_cell (.echo low high) (by simp),
    fun low high => memRead_cell (.oam low high) (by simp), memRead_unusable, memRead_serialControl,
    fun low => memRead_cell (.zram low) (by simp), fun r => memRead_gpuReg, fun h => memRead_error_of ?_⟩
  · rw [memRead_overlay h, hm]; rfl
  · rw [memRead_overlay h, hm]; rfl
  · rw [readFaults_iff]
    rcases h with h | ⟨low, high⟩ | ⟨low, high, hnone⟩
    · exact .inr (.inl h)
    · exact .inl ((writeFaults_iff addr).mpr (.inl ⟨low, high⟩))
    · by_cases hlatch : addr.toNat = 0xFF50
      · exact .inr (.inr hlatch)
      · exact .inl (writeFaults_of_unlisted low high hlatch hnone)

/-! ### Writes -/

/-- A write to ROM is dropped, under the overlay too (R60). -/
theorem memWrite_rom (h : addr.toNat ≤ 0x7FFF) : memWrite s addr v = .ok s := by
  by_cases hoverlay : addr.toNat ≤ 0x00FF ∧ s.biosMapped = true
  · exact memWrite_readOnly (.bios hoverlay.1 hoverlay.2) rfl
  by_cases hrom0 : addr.toNat ≤ 0x3FFF
  · exact memWrite_readOnly (.rom0 hrom0 hoverlay) rfl
  · exact memWrite_readOnly (.rom1 (by omega) h) rfl

/-- A write to VRAM, ERAM or WRAM (R53). -/
theorem memWrite_plain (low : 0x8000 ≤ addr.toNat) (high : addr.toNat ≤ 0xDFFF) :
    memWrite s addr v = .ok { s with mem := Memory.write s.mem addr.toNat v } := by
  obtain ⟨r, hr, hans⟩ := Answers.of_writable_plain low high
  exact memWrite_stored hans hr

/-- A write to 0xFEA0 to 0xFF00 is dropped (R64, R70). -/
theorem memWrite_unusable (low : 0xFEA0 ≤ addr.toNat) (high : addr.toNat ≤ 0xFF00) : memWrite s addr v = .ok s := by
  unfold memWrite
  by_cases hport : addr.toNat = 0xFF00
  · rw [(Answers.inputPort hport).busDecode_eq]
  · rw [(Answers.unusable low (by omega)).busDecode_eq]

theorem memWrite_serialData (h : addr.toNat = 0xFF01) :
    memWrite s addr v = .ok { s with serialOut := s.serialOut ++ [v] } := by
  unfold memWrite
  rw [(Answers.serialData h).busDecode_eq]

theorem memWrite_serialControl (h : addr.toNat = 0xFF02) : memWrite s addr v = .ok s := by
  unfold memWrite
  rw [(Answers.serialControl h).busDecode_eq]

theorem memWrite_biosLatch (h : addr.toNat = 0xFF50) :
    memWrite s addr v = .ok (if v = 0x01 then { s with biosMapped := false } else s) := by
  unfold memWrite
  rw [(Answers.biosLatch h).busDecode_eq]
  exact (apply_ite Except.ok _ _ _).symm

/-- Settles O16: the row that answers the address, for each range. -/
theorem busWriteByRange : Obligations.BusWriteByRange := by
  intro s addr v
  refine ⟨memWrite_rom, memWrite_plain, fun low high => memWrite_stored (.echo low high) rfl,
    fun low high => memWrite_stored (.oam low high) rfl, memWrite_unusable, memWrite_serialData, memWrite_serialControl,
    memWrite_biosLatch, fun low => memWrite_stored (.zram low) rfl, fun r => memWrite_gpuReg,
    fun h => memWrite_error_of ?_⟩
  rcases h with h | ⟨low, high, hlatch, hnone⟩
  · exact (writeFaults_iff addr).mpr (.inl h)
  · exact writeFaults_of_unlisted low high hlatch hnone

/-! ### A read after a write -/

/-- A write to a cell is read at every address of the cell (R53, R62). -/
theorem memRead_of_memWrite_cell {r' : Region} (h : Answers s.biosMapped addr (.stored r a)) (hr : r.readOnly = false)
    (h' : Answers s.biosMapped b (.stored r' a)) (hr' : r'.readOnly = false) (hw : memWrite s addr v = .ok t) :
    memRead t b = .ok v := by
  rw [memWrite_stored h hr] at hw
  cases hw
  refine (memRead_cell (s := { s with mem := Memory.write s.mem a v }) h' (Region.ne_bios_of_writable hr')).trans ?_
  rw [Memory.read_write_same]

/-- A read looks only at its target: the cell or the GPU register that answers the address. -/
theorem memRead_congr (hdec : busDecode t.biosMapped b = busDecode s.biosMapped b)
    (hcell : ∀ r a, busDecode s.biosMapped b = .stored r a →
      Memory.read (t.regionMem r) a = Memory.read (s.regionMem r) a)
    (hreg : ∀ r, busDecode s.biosMapped b = .gpuReg r → t.gpu.readReg r = s.gpu.readReg r) :
    memRead t b = memRead s b := by
  unfold memRead
  rw [hdec]
  cases hd : busDecode s.biosMapped b
  case stored r a => dsimp only; rw [hcell r a hd]
  case gpuReg r => dsimp only; rw [hreg r hd]
  all_goals rfl

/-- A store to a cell is read at no address of another byte. -/
theorem memRead_store_other (h : Answers s.biosMapped addr (.stored r a)) (hb : ¬ Safety.sameByte addr b) :
    memRead { s with mem := Memory.write s.mem a v } b = memRead s b := by
  refine memRead_congr rfl (fun r' a' hd => ?_) (fun _ _ => rfl)
  have hans := busDecode_answers s.biosMapped b
  rw [hd] at hans
  have hne : a' ≠ a := by
    rintro rfl
    exact hb (sameByte_of_answers h hans)
  cases r'
  case bios => rfl
  all_goals exact Memory.read_write_other _ _ _ _ hne

/-- The address of the window that lists a register (R340). -/
def gpuRegAddress (q : GpuReg) : Nat :=
  match q with
  | .lcdc => 0xFF40
  | .stat => 0xFF41
  | .scy => 0xFF42
  | .scx => 0xFF43
  | .ly => 0xFF44
  | .bgp => 0xFF47

/-- Each register is listed at one address (R340). -/
theorem eq_gpuRegAddress {a : Nat} {q : GpuReg} (h : gpuRegs a = some q) : a = gpuRegAddress q := by
  rcases gpuRegs_cases a with ⟨ha, hq⟩ | ⟨ha, hq⟩ | ⟨ha, hq⟩ | ⟨ha, hq⟩ | ⟨ha, hq⟩ | ⟨ha, hq⟩ | ⟨-, hq⟩ <;>
    rw [h] at hq <;> cases hq <;> exact ha

/-- A write to a GPU register leaves the others (R340). -/
theorem Gpu.readReg_writeReg_other (g : Gpu) {q q' : GpuReg} (v : Byte) (hne : q' ≠ q) :
    (g.writeReg q v).readReg q' = g.readReg q' := by
  cases q <;> cases q'
  case lcdc.lcdc | stat.stat | scy.scy | scx.scx | ly.ly | bgp.bgp => exact absurd rfl hne
  all_goals rfl

/-- A read of an address that the store does not reach gives what it gave (R76, R78). -/
theorem memRead_of_not_storeReaches (hw : memWrite s addr v = .ok t) (hb : ¬ Safety.storeReaches addr b) :
    memRead t b = memRead s b := by
  have hans := busDecode_answers s.biosMapped addr
  have hsame : ¬ Safety.sameByte addr b := fun h => hb (.inl h)
  rcases memWrite_cases s addr v with ⟨_, _, _, _, h⟩ | ⟨r, a, hd, hr, h⟩ | ⟨_, h⟩ | ⟨_, h⟩ | ⟨hd, h⟩ | ⟨q, hd, h⟩ | ⟨_, h⟩ <;>
    rw [h] at hw <;> cases hw
  · rfl
  · rw [hd] at hans
    exact memRead_store_other hans hsame
  · rfl
  · rfl
  · rw [hd] at hans
    cases hans with
    | biosLatch haddr =>
      have habove : 0x00FF < b.toNat := by
        by_contra hle
        exact hb (.inr ⟨BitVec.eq_of_toNat_eq haddr, by omega⟩)
      split
      · exact memRead_congr (busDecode_of_above_overlay habove _ _) (fun r _ _ => by cases r <;> rfl) (fun _ _ => rfl)
      · rfl
  · rw [hd] at hans
    cases hans with
    | gpuReg _ hq =>
      refine memRead_congr rfl (fun r _ _ => by cases r <;> rfl) (fun q' hd' => ?_)
      have hans' := busDecode_answers s.biosMapped b
      rw [hd'] at hans'
      cases hans' with
      | gpuReg _ hq' =>
        refine Gpu.readReg_writeReg_other _ _ ?_
        rintro rfl
        exact hsame (.inl (BitVec.eq_of_toNat_eq ((eq_gpuRegAddress hq).trans (eq_gpuRegAddress hq').symm)))

end

/-- Settles O17: the cell written answers the read; another byte's target is untouched. -/
theorem loadAfterStore : Obligations.LoadAfterStore := by
  intro s t addr v hw
  refine ⟨fun hram => ?_, fun b => memRead_of_not_storeReaches hw⟩
  obtain ⟨r, a, hr, hans⟩ := Answers.of_ramAddress hram
  exact memRead_of_memWrite_cell hans hr hans hr hw

/-! ### The echo (R62) -/

/-- An echo address and the address 0x2000 below are one cell of WRAM. -/
theorem Answers.of_echo {m : Bool} {addr : Word} (low : 0xE000 ≤ addr.toNat) (high : addr.toNat ≤ 0xFDFF) :
    Answers m addr (.stored .wram (addr.toNat - 0x2000)) ∧
      Answers m (addr - 0x2000) (.stored .wram (addr.toNat - 0x2000)) := by
  have hbelow : (addr - 0x2000).toNat = addr.toNat - 0x2000 := by bv_omega
  refine ⟨.echo low high, ?_⟩
  rw [← hbelow]
  exact .wram (by omega) (by omega)

/-- The last 512 bytes of WRAM have no echo, so a store there reaches its own address alone. -/
theorem eq_of_storeReaches_unechoed {addr b : Word} (low : 0xDE00 ≤ addr.toNat) (high : addr.toNat ≤ 0xDFFF)
    (h : Safety.storeReaches addr b) : b = addr := by
  unfold Safety.storeReaches Safety.sameByte at h
  rcases h with (rfl | ⟨_, _, _⟩ | ⟨_, _, _⟩) | ⟨rfl, _⟩
  · rfl
  · omega
  · omega
  · exact absurd high (by decide)

/-- Settles O18: both addresses are one cell, which both sides read and write. -/
theorem echoMirrorsWram : Obligations.EchoMirrorsWram := by
  intro s addr v
  refine ⟨fun low high => ?_, fun low high => ⟨_, memWrite_plain (by omega) high, fun b hb => ?_⟩⟩
  · obtain ⟨hecho, hbelow⟩ := Answers.of_echo (m := s.biosMapped) low high
    have hw := memWrite_stored (v := v) hecho rfl
    have hw' := memWrite_stored (v := v) hbelow rfl
    exact ⟨(memRead_stored hecho).trans (memRead_stored hbelow).symm, hw.trans hw'.symm,
      ⟨_, hw, memRead_of_memWrite_cell hecho rfl hbelow rfl hw⟩,
      ⟨_, hw', memRead_of_memWrite_cell hbelow rfl hecho rfl hw'⟩⟩
  · exact memRead_of_not_storeReaches (memWrite_plain (v := v) (by omega) high)
      fun h => hb (eq_of_storeReaches_unechoed low high h)

/-! ### The BIOS latch (R56, R69) -/

/-- Settles O19: the rows of the latch and of the overlay, and the bus frame, by which no access sets the overlay bit. -/
theorem biosLatch : Obligations.BiosLatch := by
  intro s v
  refine ⟨memWrite_biosLatch rfl, memRead_error_of (by decide), fun addr w t hw ht => ?_, fun addr h => ?_,
    fun addr low high => memRead_plain low (by omega)⟩
  · by_contra hs
    rw [(memWrite_frame hw).overlay (Bool.eq_false_of_not_eq_true hs)] at ht
    cases ht
  · rw [memRead_overlay h]
    split <;> rfl

end Sys2Proof.Machine
end

section
/-! The frame of memory over every instruction (R51, R53, R76, R77): a change of a state that leaves the bus part alone changes no
read, and a store changes only the reads it reaches. -/

namespace Sys2Proof.Machine

open Sys2Proof

/-! ### What a read depends on -/

/-- The part of a state that a bus read looks at. -/
def State.busPart (s : State) : Bool × Memory × Memory × Gpu := (s.biosMapped, s.bios, s.mem, s.gpu)

/-- Equal bus parts read alike. -/
theorem memRead_of_busPart {s t : State} (h : t.busPart = s.busPart) (b : Word) : memRead t b = memRead s b := by
  simp only [State.busPart, Prod.mk.injEq] at h
  obtain ⟨hmap, hbios, hmem, hgpu⟩ := h
  refine memRead_congr (by rw [hmap]) (fun r _ _ => ?_) (fun _ _ => by rw [hgpu])
  cases r <;> simp only [State.regionMem, hbios, hmem]

@[simp] theorem State.busPart_setReg (s : State) (r : Reg8) (v : Byte) : (s.setReg r v).busPart = s.busPart := by
  simp only [State.busPart, State.setReg_keeps_biosMapped, State.setReg_keeps_bios, State.setReg_keeps_mem,
    State.setReg_keeps_gpu]

@[simp] theorem State.busPart_setFlags (s : State) (z n h c : Option Bool) : (s.setFlags z n h c).busPart = s.busPart := rfl

@[simp] theorem State.busPart_setHl (s : State) (w : Word) : (s.setHl w).busPart = s.busPart := rfl

@[simp] theorem State.busPart_setPair (s : State) (p : Pair) (w : Word) : (s.setPair p w).busPart = s.busPart := by
  cases p <;> rfl

@[simp] theorem State.busPart_setStackPair (s : State) (p : StackPair) (w : Word) :
    (s.setStackPair p w).busPart = s.busPart := by
  cases p <;> rfl

@[simp] theorem busPart_aluUpdate (op : AluOp) (v : Byte) (s : State) : (aluUpdate op v s).busPart = s.busPart := by
  cases op <;> rfl

@[simp] theorem State.busPart_setSp (s : State) (v : Word) : { s with sp := v }.busPart = s.busPart := rfl
@[simp] theorem State.busPart_setPc (s : State) (v : Word) : { s with pc := v }.busPart = s.busPart := rfl
@[simp] theorem State.busPart_setIme (s : State) (v : Bool) : { s with ime := v }.busPart = s.busPart := rfl
@[simp] theorem State.busPart_setHalted (s : State) (v : Bool) : { s with halted := v }.busPart = s.busPart := rfl

theorem busPart_flagsThenHl (s : State) (z n h c : Option Bool) (w : Word) :
    ((s.setFlags z n h c).setHl w).busPart = s.busPart := rfl
theorem busPart_incByte (v : Byte) (s : State) : (incByte v s).2.busPart = s.busPart := rfl
theorem busPart_decByte (v : Byte) (s : State) : (decByte v s).2.busPart = s.busPart := rfl
theorem busPart_testBit (n : BitVec 3) (v : Byte) (s : State) : (testBit n v s).busPart = s.busPart := rfl
theorem busPart_clearBit (n : BitVec 3) (v : Byte) (s : State) : (clearBit n v s).2.busPart = s.busPart := rfl
theorem busPart_setBit (n : BitVec 3) (v : Byte) (s : State) : (setBit n v s).2.busPart = s.busPart := rfl
theorem busPart_rotate (k : RotKind) (v : Byte) (s : State) : (rotate k v s).2.busPart = s.busPart := rfl
theorem busPart_rotateA (k : RotKind) (s : State) : (rotateA k s).busPart = s.busPart := rfl
theorem busPart_decimalAdjust (s : State) : (decimalAdjust s).busPart = s.busPart := rfl

/-! ### The frame of the operations -/

/-- Every read that stores to the addresses `l` do not reach gives in `t` what it gives in `s`. -/
def ReadsKept (l : List Word) (s t : State) : Prop :=
  ∀ b, (∀ a ∈ l, ¬ Safety.storeReaches a b) → memRead t b = memRead s b

section
variable {l : List Word} {s t u : State}

theorem ReadsKept.trans (h : ReadsKept l s t) (h' : ReadsKept l t u) : ReadsKept l s u :=
  fun b hb => (h' b hb).trans (h b hb)

theorem ReadsKept.of_busPart (h : t.busPart = s.busPart) : ReadsKept l s t := fun b _ => memRead_of_busPart h b

theorem memWrite_readsKept {addr : Word} {v : Byte} (hl : addr ∈ l) (h : memWrite s addr v = .ok t) : ReadsKept l s t :=
  fun _ hb => memRead_of_not_storeReaches h (hb addr hl)

/-- An effect that answers at once and leaves the bus part alone. -/
theorem next_readsKept (hu : u.busPart = s.busPart) (h : (.next u : Step) = .next t) : ReadsKept l s t := by
  cases h
  exact .of_busPart hu

theorem fromReg_readsKept {update : Byte → State → State} {r : Reg8} (hu : ∀ v, (update v s).busPart = s.busPart)
    (h : fromReg update r s = .next t) : ReadsKept l s t := next_readsKept (hu _) h

theorem fromImm_readsKept {update : Byte → State → State} {n : Byte} (hu : ∀ v, (update v s).busPart = s.busPart)
    (h : fromImm update n s = .next t) : ReadsKept l s t := next_readsKept (hu _) h

theorem fromMem_readsKept {update : Byte → State → State} {addr : Word} (hu : ∀ v, (update v s).busPart = s.busPart)
    (h : fromMem update addr s = .next t) : ReadsKept l s t := by
  obtain ⟨v, _, rfl⟩ := fromMem_next.mp h
  exact .of_busPart (hu v)

theorem modifyReg_readsKept {change : Byte → State → Byte × State} {r : Reg8}
    (hc : ∀ v, (change v s).2.busPart = s.busPart) (h : modifyReg change r s = .next t) : ReadsKept l s t :=
  next_readsKept ((State.busPart_setReg _ _ _).trans (hc _)) h

theorem modifyAtHl_readsKept {change : Byte → State → Byte × State} (hc : ∀ v, (change v s).2.busPart = s.busPart)
    (hhl : ∀ v, (change v s).2.hl = s.hl) (hl : s.hl ∈ l) (h : modifyAtHl change s = .next t) : ReadsKept l s t := by
  obtain ⟨v, _, ht⟩ := modifyAtHl_next.mp h
  exact (ReadsKept.of_busPart (hc v)).trans (memWrite_readsKept (hhl v ▸ hl) ht)

theorem storeMem_readsKept {addr : Word} {v : Byte} (hl : addr ∈ l) (h : storeMem addr v s = .next t) : ReadsKept l s t :=
  memWrite_readsKept hl (storeMem_next.mp h)

theorem storeThenHl_readsKept {delta : Word} (hl : s.hl ∈ l) (h : storeThenHl delta s = .next t) : ReadsKept l s t := by
  obtain ⟨u, hu, rfl⟩ := storeThenHl_next.mp h
  exact (memWrite_readsKept hl hu).trans (.of_busPart rfl)

theorem loadThenHl_readsKept {delta : Word} (h : loadThenHl delta s = .next t) : ReadsKept l s t := by
  obtain ⟨v, _, rfl⟩ := loadThenHl_next.mp h
  exact .of_busPart rfl

theorem storeSp_readsKept {nn : Word} (hlow : nn ∈ l) (hhigh : nn + 1 ∈ l) (h : storeSp nn s = .next t) :
    ReadsKept l s t := by
  obtain ⟨u, hu, ht⟩ := storeSp_next.mp h
  exact (memWrite_readsKept hlow hu).trans (memWrite_readsKept hhigh ht)

/-- A push stores at SP - 1 and at SP - 2 (R197). -/
theorem push16_readsKept {w : Word} (h : push16 w s = .ok () t) : ReadsKept (Safety.pushAddrs s) s t := by
  obtain ⟨u, hu, ht⟩ := push16_ok.mp h
  have hsp : u.sp - 1 = s.sp - 2 := by
    rw [(memWrite_frame hu).sp, BitVec.sub_sub]
    rfl
  have hhigh : s.sp - 1 ∈ Safety.pushAddrs s := .head _
  have hlow : u.sp - 1 ∈ Safety.pushAddrs s := hsp ▸ .tail _ (.head _)
  have hsecond : ReadsKept (Safety.pushAddrs s) u { u with sp := u.sp - 1 } := .of_busPart rfl
  exact (ReadsKept.of_busPart rfl).trans <| (memWrite_readsKept hhigh hu).trans <|
    hsecond.trans (memWrite_readsKept hlow ht)

theorem popInto_readsKept {p : StackPair} (h : popInto p s = .next t) : ReadsKept l s t := by
  obtain ⟨w, u, hu, rfl⟩ := popInto_next.mp h
  obtain ⟨_, _, _, _, _, rfl⟩ := pop16_ok.mp hu
  exact .of_busPart (State.busPart_setStackPair _ _ _)

theorem call_readsKept {target : Word} (h : call target s = .ok () t) : ReadsKept (Safety.pushAddrs s) s t := by
  obtain ⟨u, hu, rfl⟩ := call_ok.mp h
  exact (push16_readsKept hu).trans (.of_busPart rfl)

theorem ret_readsKept (h : ret s = .ok () t) : ReadsKept l s t := by
  obtain ⟨w, u, hu, rfl⟩ := ret_ok.mp h
  obtain ⟨_, _, _, _, _, rfl⟩ := pop16_ok.mp hu
  exact .of_busPart rfl

theorem ifCond_readsKept {cc : Cond} {taken : State → Res Unit}
    (ht : Safety.condition cc s.f = true → taken s = .ok () t → ReadsKept l s t) (h : ifCond cc taken s = .next t) :
    ReadsKept l s t := by
  rcases ifCond_next.mp h with ⟨hcond, h⟩ | ⟨_, rfl⟩
  · exact ht (condHolds_eq_condition cc s ▸ hcond) h
  · exact .of_busPart rfl

end

/-! ### The frame of every instruction -/

/-- The instruction's effect keeps every read that its stores do not reach. -/
def KeepsReads (i : Instr) : Prop := ∀ s t : State, exec i s = .next t → ReadsKept (Safety.storeAddrs i s) s t

theorem storeAddrs_pushPair (p : StackPair) (s : State) : Safety.storeAddrs (.pushPair p) s = Safety.pushAddrs s := by
  cases p <;> rfl

theorem storeAddrs_rstTo (y : BitVec 3) (s : State) : Safety.storeAddrs (.rstTo y) s = Safety.pushAddrs s := by
  obtain ⟨-, -, hstores⟩ := footprint_rstTo y s
  exact hstores

/-- A conditional call stores only where the condition holds (R276). -/
theorem storeAddrs_callCond {cc : Cond} {s : State} (nn : Word) (hcond : Safety.condition cc s.f = true) :
    Safety.storeAddrs (.callCond cc nn) s = Safety.pushAddrs s := by
  cases cc <;> exact if_pos hcond

/-- An instruction whose one store is at HL stores at HL. -/
theorem hl_mem_of_eq {l : List Word} {s : State} (h : l = [s.hl]) : s.hl ∈ l := by simp [h]

theorem load_readsKept : LoadForms KeepsReads where
  ldRegReg r q s _ h := fromReg_readsKept (State.busPart_setReg s r) (exec_ldRegReg r q s ▸ h)
  ldRegImm r n s _ h := fromImm_readsKept (State.busPart_setReg s r) (exec_ldRegImm r n s ▸ h)
  ldRegAtHl r s _ h := fromMem_readsKept (State.busPart_setReg s r) (exec_ldRegAtHl r s ▸ h)
  ldAtHlReg r s _ h := storeMem_readsKept (by cases r <;> exact .head _) (exec_ldAtHlReg r s ▸ h)
  ldAtHlImm n s _ h := storeMem_readsKept (.head _) h
  ldAAtBc s _ h := fromMem_readsKept (fun _ => rfl) h
  ldAAtDe s _ h := fromMem_readsKept (fun _ => rfl) h
  ldAtBcA s _ h := storeMem_readsKept (.head _) h
  ldAtDeA s _ h := storeMem_readsKept (.head _) h
  ldAAtImm16 nn s _ h := fromMem_readsKept (fun _ => rfl) h
  ldAtImm16A nn s _ h := storeMem_readsKept (.head _) h
  ldhAAtImm n s _ h := fromMem_readsKept (fun _ => rfl) h
  ldhAtImmA n s _ h := storeMem_readsKept (.head _) h
  ldAAtC s _ h := fromMem_readsKept (fun _ => rfl) h
  ldAtCA s _ h := storeMem_readsKept (.head _) h
  ldAtHlIncA s _ h := storeThenHl_readsKept (.head _) h
  ldAtHlDecA s _ h := storeThenHl_readsKept (.head _) h
  ldAAtHlInc s _ h := loadThenHl_readsKept h
  ldAAtHlDec s _ h := loadThenHl_readsKept h
  ldPairImm16 p nn s _ h := next_readsKept (State.busPart_setPair s p nn) (exec_ldPairImm16 p nn s ▸ h)
  ldAtImm16Sp nn s _ h := storeSp_readsKept (.head _) (.tail _ (.head _)) h
  ldSpHl s _ h := next_readsKept (State.busPart_setSp s _) h
  ldHlSpRel n s _ h := next_readsKept (busPart_flagsThenHl s _ _ _ _ _) h
  pushPair p s _ h := storeAddrs_pushPair p s ▸ push16_readsKept (Res.outcome_next.mp (exec_pushPair p s ▸ h))
  popPair p s _ h := popInto_readsKept (exec_popPair p s ▸ h)

theorem arithmetic_readsKept : ArithmeticForms KeepsReads where
  aluReg op r s _ h := fromReg_readsKept (busPart_aluUpdate op · s) (exec_aluReg op r s ▸ h)
  aluImm op n s _ h := fromImm_readsKept (busPart_aluUpdate op · s) (exec_aluImm op n s ▸ h)
  aluAtHl op s _ h := fromMem_readsKept (busPart_aluUpdate op · s) (exec_aluAtHl op s ▸ h)
  incReg r s _ h := modifyReg_readsKept (busPart_incByte · s) (exec_incReg r s ▸ h)
  decReg r s _ h := modifyReg_readsKept (busPart_decByte · s) (exec_decReg r s ▸ h)
  incAtHl s _ h := modifyAtHl_readsKept (busPart_incByte · s) (fun _ => rfl) (.head _) h
  decAtHl s _ h := modifyAtHl_readsKept (busPart_decByte · s) (fun _ => rfl) (.head _) h
  addHlPair p s _ h := next_readsKept (busPart_flagsThenHl s _ _ _ _ _) (exec_addHlPair p s ▸ h)
  addSpRel _ s _ h := next_readsKept ((State.busPart_setSp _ _).trans (State.busPart_setFlags s _ _ _ _)) h
  incPair p s _ h := next_readsKept (State.busPart_setPair s p _) (exec_incPair p s ▸ h)
  decPair p s _ h := next_readsKept (State.busPart_setPair s p _) (exec_decPair p s ▸ h)
  rlca s _ h := next_readsKept (busPart_rotateA .rlc s) h
  rrca s _ h := next_readsKept (busPart_rotateA .rrc s) h
  rla s _ h := next_readsKept (busPart_rotateA .rl s) h
  rra s _ h := next_readsKept (busPart_rotateA .rr s) h
  daa s _ h := next_readsKept (busPart_decimalAdjust s) h
  cpl s _ h := next_readsKept
    ((State.busPart_setFlags _ none (some true) (some true) none).trans (State.busPart_setReg s .a (s.a ^^^ 0xFF))) h
  scf s _ h := next_readsKept (State.busPart_setFlags s _ _ _ _) h
  ccf s _ h := next_readsKept (State.busPart_setFlags s _ _ _ _) h
  nop s _ h := next_readsKept (u := s) rfl h

theorem control_readsKept : ControlForms KeepsReads where
  jpImm16 nn s _ h := next_readsKept (State.busPart_setPc s nn) h
  jpHl s _ h := next_readsKept (State.busPart_setPc s _) h
  jrRel n s _ h := next_readsKept (State.busPart_setPc s _) h
  jpCond cc nn s _ h := ifCond_readsKept (fun _ h => by cases h; exact .of_busPart (State.busPart_setPc s nn))
    (exec_jpCond cc nn s ▸ h)
  jrCond cc n s _ h := ifCond_readsKept (fun _ h => by cases h; exact .of_busPart (State.busPart_setPc s _))
    (exec_jrCond cc n s ▸ h)
  callImm16 nn s _ h := call_readsKept (Res.outcome_next.mp h)
  callCond cc nn s _ h := ifCond_readsKept (fun hcond h => storeAddrs_callCond nn hcond ▸ call_readsKept h)
    (exec_callCond cc nn s ▸ h)
  rstTo y s _ h := storeAddrs_rstTo y s ▸ call_readsKept (Res.outcome_next.mp (exec_rstTo y s ▸ h))
  ret s _ h := ret_readsKept (Res.outcome_next.mp h)
  retCond cc s _ h := ifCond_readsKept (fun _ => ret_readsKept) (exec_retCond cc s ▸ h)
  reti s _ h := by
    obtain ⟨_, u, hu, ht⟩ := Res.andThen_ok.mp (Res.outcome_next.mp h)
    cases ht
    exact (ret_readsKept hu).trans (.of_busPart rfl)
  halt s _ h := next_readsKept (State.busPart_setHalted s true) h
  stop n s _ h := next_readsKept (State.busPart_setHalted s true) h
  di s _ h := next_readsKept (State.busPart_setIme s false) h
  ei s _ h := next_readsKept (State.busPart_setIme s true) h
  unassigned _ _ hrow _ _ h := absurd h (exec_unassigned_ne_next hrow)

theorem cb_readsKept : CbForms KeepsReads where
  rotReg k r s _ h := modifyReg_readsKept (busPart_rotate k · s) (exec_rotReg k r s ▸ h)
  rotAtHl k s _ h := modifyAtHl_readsKept (busPart_rotate k · s) (fun _ => rfl) (hl_mem_of_eq (footprint_rotAtHl k s).2)
    (exec_rotAtHl k s ▸ h)
  bitReg n r s _ h := fromReg_readsKept (busPart_testBit n · s) (exec_bitReg n r s ▸ h)
  bitAtHl n s _ h := fromMem_readsKept (busPart_testBit n · s) (exec_bitAtHl n s ▸ h)
  resReg n r s _ h := modifyReg_readsKept (busPart_clearBit n · s) (exec_resReg n r s ▸ h)
  resAtHl n s _ h := modifyAtHl_readsKept (busPart_clearBit n · s) (fun _ => rfl) (hl_mem_of_eq (footprint_resAtHl n s))
    (exec_resAtHl n s ▸ h)
  setReg n r s _ h := modifyReg_readsKept (busPart_setBit n · s) (exec_setReg n r s ▸ h)
  setAtHl n s _ h := modifyAtHl_readsKept (busPart_setBit n · s) (fun _ => rfl) (hl_mem_of_eq (footprint_setAtHl n s))
    (exec_setAtHl n s ▸ h)

/-- Settles O55: the frame of each form, over the forms of the instruction set. -/
theorem frameOfMemory : Obligations.FrameOfMemory :=
  Instr.of_forms (P := KeepsReads) load_readsKept arithmetic_readsKept control_readsKept cb_readsKept

end Sys2Proof.Machine
end

section
/-! The encoding (R90 to R98, R123): the opcode tables as a relation between bytes and instructions, which the decoder reads off
in one direction and the encoder in the other. -/

namespace Sys2Proof.Machine

open Sys2Proof

/-! ### The opcode tables -/

/-- The opcode tables give these bytes to this instruction: a row of the base map with its immediate (R93, R96), an unassigned
byte alone (R98), or a row of the CB-extended table (R97). -/
inductive Listed : List Byte → Instr → Prop where
  | plain {op i} (h : baseEntry op = .plain i) : Listed [op] i
  | imm8 {op make} (h : baseEntry op = .imm8 make) (n : Byte) : Listed [op, n] (make n)
  | imm16 {op make} (h : baseEntry op = .imm16 make) (nn : Word) : Listed [op, lo nn, hi nn] (make nn)
  | cb (op2 : Byte) : Listed [0xCB, op2] (cbInstr op2)
  | unassigned {op i} (h : baseEntry op = .unassigned i) : Listed [op] i

/-- Listed bytes decode to their instruction, whatever follows (R123). -/
theorem decode_of_listed {own : List Byte} {i : Instr} (h : Listed own i) (rest : List Byte) :
    decode (own ++ rest) = .ok (i, rest) := by
  cases h with
  | plain h => simp [decode, decodeIn, implSets, implBase, h]
  | imm8 h n => simp [decode, decodeIn, implSets, implBase, h]
  | imm16 h nn => simp [decode, decodeIn, implSets, implBase, h]
  | cb op2 => rfl
  | unassigned h => simp [decode, decodeIn, h]

/-- Bytes that decode begin with listed bytes of the instruction, and what is left follows them (R92, R93). -/
theorem listed_of_decode {bytes rest : List Byte} {i : Instr} (hd : decode bytes = .ok (i, rest)) :
    ∃ own, Listed own i ∧ bytes = own ++ rest := by
  cases bytes with
  | nil => cases hd
  | cons op tail =>
    unfold decode decodeIn at hd
    dsimp only at hd
    cases he : baseEntry op <;> rw [he] at hd <;> dsimp only at hd
    case unassigned =>
      cases hd
      exact ⟨_, .unassigned he, rfl⟩
    case escapeCb =>
      cases eq_0xCB_of_baseEntry he
      cases tail with
      | nil => cases hd
      | cons op2 tail =>
        cases hd
        exact ⟨_, .cb op2, rfl⟩
    all_goals split at hd
    case plain.isTrue =>
      cases hd
      exact ⟨_, .plain he, rfl⟩
    case imm8.isTrue =>
      split at hd <;> cases hd
      exact ⟨_, .imm8 he _, rfl⟩
    case imm16.isTrue =>
      split at hd <;> cases hd
      exact ⟨_, .imm16 he _, by simp⟩
    all_goals cases hd

/-! ### The encoder gives the listed bytes -/

/-- What the encoder must give for the instructions of a base entry under its byte. -/
def EntryEncodes (op : Byte) (entry : Entry) : Prop :=
  match entry with
  | .plain i => encode i = [op]
  | .imm8 make => (fun n => encode (make n)) = fun n => [op, n]
  | .imm16 make => (fun nn => encode (make nn)) = fun nn => [op, lo nn, hi nn]
  | .escapeCb => op = 0xCB
  | .unassigned i => encode i = [op]

/-- The opcode byte with the given fields (R91). -/
def opcode (x : BitVec 2) (y z : BitVec 3) : Byte := x ++ y ++ z

/-- The fields make up the byte (R91). -/
theorem opcode_fields (op : Byte) : opcode (fieldX op) (fieldY op) (fieldZ op) = op := by
  revert op
  decide

/-- The four values of the field `x`. -/
theorem fieldX_cases (x : BitVec 2) : x = 0 ∨ x = 1 ∨ x = 2 ∨ x = 3 := by
  revert x
  decide

/-- The encoder inverts each cell of the base map, by its fields. -/
theorem baseEntry_opcode_encodes (x : BitVec 2) (y z : BitVec 3) :
    EntryEncodes (opcode x y z) (baseEntry (opcode x y z)) := by
  rcases fieldX_cases x with rfl | rfl | rfl | rfl <;>
    rcases index_cases y with rfl | rfl | rfl | rfl | rfl | rfl | rfl | rfl <;>
      rcases index_cases z with rfl | rfl | rfl | rfl | rfl | rfl | rfl | rfl <;> exact rfl

/-- The encoder inverts the base map (R96, R98). -/
theorem baseEntry_encodes (op : Byte) : EntryEncodes op (baseEntry op) :=
  opcode_fields op ▸ baseEntry_opcode_encodes (fieldX op) (fieldY op) (fieldZ op)

/-- The encoder inverts the CB-extended table (R97). -/
theorem encode_cbInstr (op2 : Byte) : encode (cbInstr op2) = [0xCB, op2] := by
  revert op2
  decide

/-- The encoder gives an instruction the bytes the tables list for it (R103). -/
theorem encode_of_listed {own : List Byte} {i : Instr} (h : Listed own i) : encode i = own := by
  cases h with
  | cb op2 => exact encode_cbInstr op2
  | @plain op i h | @unassigned op i h =>
    have he := baseEntry_encodes op
    rwa [h] at he
  | @imm8 op make h n =>
    have he := baseEntry_encodes op
    rw [h] at he
    exact congrFun he n
  | @imm16 op make h nn =>
    have he := baseEntry_encodes op
    rw [h] at he
    exact congrFun he nn

/-! ### Every instruction is listed -/

/-- The tables list the instruction under its own encoding. -/
def IsListed (i : Instr) : Prop := Listed (encode i) i

theorem load_isListed : LoadForms IsListed where
  ldRegReg r q := by cases r <;> cases q <;> exact .plain rfl
  ldRegImm r n := by cases r <;> exact .imm8 rfl n
  ldRegAtHl r := by cases r <;> exact .plain rfl
  ldAtHlReg r := by cases r <;> exact .plain rfl
  ldAtHlImm n := .imm8 rfl n
  ldAAtBc := .plain rfl
  ldAAtDe := .plain rfl
  ldAtBcA := .plain rfl
  ldAtDeA := .plain rfl
  ldAAtImm16 nn := .imm16 rfl nn
  ldAtImm16A nn := .imm16 rfl nn
  ldhAAtImm n := .imm8 rfl n
  ldhAtImmA n := .imm8 rfl n
  ldAAtC := .plain rfl
  ldAtCA := .plain rfl
  ldAtHlIncA := .plain rfl
  ldAtHlDecA := .plain rfl
  ldAAtHlInc := .plain rfl
  ldAAtHlDec := .plain rfl
  ldPairImm16 p nn := by cases p <;> exact .imm16 rfl nn
  ldAtImm16Sp nn := .imm16 rfl nn
  ldSpHl := .plain rfl
  ldHlSpRel n := .imm8 rfl n
  pushPair p := by cases p <;> exact .plain rfl
  popPair p := by cases p <;> exact .plain rfl

theorem arithmetic_isListed : ArithmeticForms IsListed where
  aluReg op r := by cases op <;> cases r <;> exact .plain rfl
  aluImm op n := by cases op <;> exact .imm8 rfl n
  aluAtHl op := by cases op <;> exact .plain rfl
  incReg r := by cases r <;> exact .plain rfl
  decReg r := by cases r <;> exact .plain rfl
  incAtHl := .plain rfl
  decAtHl := .plain rfl
  addHlPair p := by cases p <;> exact .plain rfl
  addSpRel n := .imm8 rfl n
  incPair p := by cases p <;> exact .plain rfl
  decPair p := by cases p <;> exact .plain rfl
  rlca := .plain rfl
  rrca := .plain rfl
  rla := .plain rfl
  rra := .plain rfl
  daa := .plain rfl
  cpl := .plain rfl
  scf := .plain rfl
  ccf := .plain rfl
  nop := .plain rfl

theorem control_isListed : ControlForms IsListed where
  jpImm16 nn := .imm16 rfl nn
  jpHl := .plain rfl
  jrRel n := .imm8 rfl n
  jpCond cc nn := by cases cc <;> exact .imm16 rfl nn
  jrCond cc n := by cases cc <;> exact .imm8 rfl n
  callImm16 nn := .imm16 rfl nn
  callCond cc nn := by cases cc <;> exact .imm16 rfl nn
  rstTo y := by rcases index_cases y with rfl | rfl | rfl | rfl | rfl | rfl | rfl | rfl <;> exact .plain rfl
  ret := .plain rfl
  retCond cc := by cases cc <;> exact .plain rfl
  reti := .plain rfl
  halt := .plain rfl
  stop n := .imm8 rfl n
  di := .plain rfl
  ei := .plain rfl
  unassigned op i h := by
    have hl : Listed [op] i := .unassigned (baseEntry_of_mem_unassignedRows h)
    unfold IsListed
    rwa [encode_of_listed hl]

theorem cb_isListed : CbForms IsListed where
  rotReg k r := by cases k <;> cases r <;> exact .cb _
  rotAtHl k := by cases k <;> exact .cb _
  bitReg n r := by
    rcases index_cases n with rfl | rfl | rfl | rfl | rfl | rfl | rfl | rfl <;> cases r <;> exact .cb _
  bitAtHl n := by rcases index_cases n with rfl | rfl | rfl | rfl | rfl | rfl | rfl | rfl <;> exact .cb _
  resReg n r := by
    rcases index_cases n with rfl | rfl | rfl | rfl | rfl | rfl | rfl | rfl <;> cases r <;> exact .cb _
  resAtHl n := by rcases index_cases n with rfl | rfl | rfl | rfl | rfl | rfl | rfl | rfl <;> exact .cb _
  setReg n r := by
    rcases index_cases n with rfl | rfl | rfl | rfl | rfl | rfl | rfl | rfl <;> cases r <;> exact .cb _
  setAtHl n := by rcases index_cases n with rfl | rfl | rfl | rfl | rfl | rfl | rfl | rfl <;> exact .cb _

/-- The tables list every instruction under its own encoding. -/
theorem listed_encode (i : Instr) : Listed (encode i) i :=
  Instr.of_forms (P := IsListed) load_isListed arithmetic_isListed control_isListed cb_isListed i

/-! ### The lengths (R90) -/

/-- The list of R90 gives the lengths of the base map. -/
theorem lengthByFirstByte_eq_ofFirstByte (op : Byte) : Safety.lengthByFirstByte op = Laws.Length.ofFirstByte op := by
  revert op
  decide

/-- Listed bytes are as many as R90 lists for the first of them. -/
theorem Listed.length_eq {own rest tail : List Byte} {op : Byte} {i : Instr} (h : Listed own i)
    (hbytes : op :: tail = own ++ rest) : own.length = Safety.lengthByFirstByte op := by
  rw [lengthByFirstByte_eq_ofFirstByte]
  cases h <;> cases hbytes
  case cb => rfl
  all_goals simp [Laws.Length.ofFirstByte, *]

/-! ### The obligations -/

/-- Settles O3: the tables list every instruction under its encoding, and listed bytes decode. An ill-formed instruction
decodes as well, so the hypothesis goes unused. -/
theorem decodeOfEncode : Obligations.DecodeOfEncode :=
  fun i rest _ => decode_of_listed (listed_encode i) rest

/-- Settles O4: what decodes is listed, and the encoder gives the listed bytes. -/
theorem encodeOfDecode : Obligations.EncodeOfDecode := by
  intro bytes rest i hd
  obtain ⟨own, hl, rfl⟩ := listed_of_decode hd
  rw [encode_of_listed hl]

/-- Settles O6: the listed bytes that decode have the length of R90, and they are the encoding. -/
theorem firstByteFixesLength : Obligations.FirstByteFixesLength := by
  intro op tail rest i hd
  obtain ⟨own, hl, hbytes⟩ := listed_of_decode hd
  have hown := hl.length_eq hbytes
  refine ⟨?_, by rw [encode_of_listed hl, hown]⟩
  calc tail.length + 1 = (own ++ rest).length := by rw [← hbytes, List.length_cons]
    _ = Safety.lengthByFirstByte op + rest.length := by rw [List.length_append, hown]

end Sys2Proof.Machine
end

section
/-! The step (R121, R122, R129, R378): where a step exists, how a step runs the instruction its bytes decode to, and how the fetch
of an instruction byte raises. -/

namespace Sys2Proof.Machine

open Sys2Proof

/-! ### The fetch where a byte answers no read (R122, R378) -/

/-- The fetch of the first byte raises before any lookup. -/
theorem fetchInstr_of_error {s : State} {record : FaultRecord} (h : memRead s s.pc = .error record) :
    fetchInstr s = raise record s := by
  rw [fetchInstr, fetch8_of_error h, raise_andThen]

section
variable {s : State} {op : Byte}

/-- After the first byte of a row with an immediate byte, the fetch is that of the byte (R93). -/
theorem fetchInstr_of_imm8 {make : Byte → Instr} (h : memRead s s.pc = .ok op) (hop : baseEntry op = .imm8 make) :
    fetchInstr s = (fetch8 { s with pc := s.pc + 1 }).andThen fun n t => .ok (make n) t := by
  have hin : settings.implSets.base op = true := by simp [settings, implSets, implBase, hop]
  rw [fetchInstr, fetch8_of_ok h, Res.ok_andThen, hop]
  exact if_pos hin

/-- After the first byte of a row with an immediate word, the fetch is that of its low and its high byte (R93). -/
theorem fetchInstr_of_imm16 {make : Word → Instr} (h : memRead s s.pc = .ok op) (hop : baseEntry op = .imm16 make) :
    fetchInstr s = (fetch8 { s with pc := s.pc + 1 }).andThen fun low t =>
      (fetch8 t).andThen fun high u => .ok (make (word high low)) u := by
  have hin : settings.implSets.base op = true := by simp [settings, implSets, implBase, hop]
  rw [fetchInstr, fetch8_of_ok h, Res.ok_andThen, hop]
  exact if_pos hin

/-- After the escape byte the fetch is that of the second opcode byte (R97). -/
theorem fetchInstr_of_escapeCb (h : memRead s s.pc = .ok 0xCB) :
    fetchInstr s = (fetch8 { s with pc := s.pc + 1 }).andThen fun op2 t => .ok (cbInstr op2) t := by
  have hescape : baseEntry 0xCB = .escapeCb := rfl
  rw [fetchInstr, fetch8_of_ok h, Res.ok_andThen, hescape]
  rfl

end

/-- The fetch of an instruction raises at the first of its bytes that answers no read, with PC at that byte (R378). -/
theorem fetchInstr_of_listed_error {s : State} {own : List Byte} {i : Instr} {k : Nat} {record : FaultRecord}
    (hl : Listed own i) (hk : k < own.length) (hbytes : Safety.bytesAt s s.pc (own.take k))
    (herr : memRead s (s.pc + BitVec.ofNat 16 k) = .error record) :
    fetchInstr s = raise record { s with pc := s.pc + BitVec.ofNat 16 k } := by
  match k with
  | 0 =>
    rw [BitVec.add_zero] at herr ⊢
    exact fetchInstr_of_error herr
  | 1 =>
    have hsecond : fetch8 { s with pc := s.pc + 1 } = raise record { s with pc := s.pc + 1 } := fetch8_of_error herr
    cases hl with
    | plain | unassigned => simp at hk
    | imm8 hop n => rw [fetchInstr_of_imm8 hbytes.1 hop, hsecond, raise_andThen]; rfl
    | imm16 hop nn => rw [fetchInstr_of_imm16 hbytes.1 hop, hsecond, raise_andThen]; rfl
    | cb op2 => rw [fetchInstr_of_escapeCb hbytes.1, hsecond, raise_andThen]; rfl
  | 2 =>
    have hpc : s.pc + BitVec.ofNat 16 2 = s.pc + 1 + 1 := by simp [BitVec.add_assoc]
    rw [hpc] at herr ⊢
    cases hl with
    | plain | unassigned | imm8 | cb => simp at hk
    | imm16 hop nn =>
      obtain ⟨hfirst, hlow, -⟩ := hbytes
      rw [fetchInstr_of_imm16 hfirst hop, fetch8_of_ok (s := { s with pc := s.pc + 1 }) hlow, Res.ok_andThen,
        fetch8_of_error (s := { s with pc := s.pc + 1 + 1 }) herr, raise_andThen]
  | k + 3 => cases hl <;> simp at hk

/-- Settles O10: the tables list the instruction under its encoding, and an address of R372 answers the read of the fetch with the
record of that address. -/
theorem instructionFetchFaults : Obligations.InstructionFetchFaults := by
  intro i s k hk hf hh hbytes hfaults
  exact runStep_of_fetch_raise hf hh (fetchInstr_of_listed_error (listed_encode i) hk hbytes (memRead_error_of hfaults))

/-! ### The step of a decoded instruction (R129) -/

/-- Settles O8: the fetch answers the instruction its bytes decode to, and what follows the effect is the accounting. -/
theorem stepRunsDecodedInstruction : Obligations.StepRunsDecodedInstruction := by
  intro s i bytes hf hh hbytes hd
  unfold step
  rw [runStep_ready hf hh, fetchInstr_of_decode hbytes hd]
  dsimp only
  cases exec i { s with pc := s.pc + BitVec.ofNat 16 bytes.length } <;> rfl

/-! ### What an effect can answer (R18, R130) -/

/-- A next state or a raise: the outcome of a part of a step. -/
def IsOutcome (o : Step) : Prop := ∃ r : Res Unit, o = r.outcome

/-- The effect of the instruction answers a next state or a raise. -/
def EffectIsOutcome (i : Instr) : Prop := ∀ s, IsOutcome (exec i s)

theorem next_isOutcome (t : State) : IsOutcome (.next t) := ⟨.ok () t, rfl⟩

theorem ifCond_isOutcome (cc : Cond) (taken : State → Res Unit) (s : State) : IsOutcome (ifCond cc taken s) := by
  unfold ifCond
  split
  · exact ⟨_, rfl⟩
  · exact next_isOutcome _

/-- An unassigned byte raises (R325). -/
theorem exec_of_mem_unassignedRows {op : Byte} {i : Instr} (h : (op, i) ∈ Safety.unassignedRows) (s : State) :
    exec i s = notImplemented op s := by
  simp only [Safety.unassignedRows, List.mem_cons, Prod.mk.injEq, List.not_mem_nil, or_false] at h
  rcases h with ⟨rfl, rfl⟩ | ⟨rfl, rfl⟩ | ⟨rfl, rfl⟩ | ⟨rfl, rfl⟩ | ⟨rfl, rfl⟩ | ⟨rfl, rfl⟩ | ⟨rfl, rfl⟩ | ⟨rfl, rfl⟩ |
    ⟨rfl, rfl⟩ | ⟨rfl, rfl⟩ | ⟨rfl, rfl⟩ <;> rfl

theorem load_isOutcome : LoadForms EffectIsOutcome where
  ldRegReg r q s := exec_ldRegReg r q s ▸ next_isOutcome _
  ldRegImm r n s := exec_ldRegImm r n s ▸ next_isOutcome _
  ldRegAtHl r s := ⟨_, exec_ldRegAtHl r s⟩
  ldAtHlReg r s := ⟨_, exec_ldAtHlReg r s⟩
  ldAtHlImm _ _ := ⟨_, rfl⟩
  ldAAtBc _ := ⟨_, rfl⟩
  ldAAtDe _ := ⟨_, rfl⟩
  ldAtBcA _ := ⟨_, rfl⟩
  ldAtDeA _ := ⟨_, rfl⟩
  ldAAtImm16 _ _ := ⟨_, rfl⟩
  ldAtImm16A _ _ := ⟨_, rfl⟩
  ldhAAtImm _ _ := ⟨_, rfl⟩
  ldhAtImmA _ _ := ⟨_, rfl⟩
  ldAAtC _ := ⟨_, rfl⟩
  ldAtCA _ := ⟨_, rfl⟩
  ldAtHlIncA _ := ⟨_, rfl⟩
  ldAtHlDecA _ := ⟨_, rfl⟩
  ldAAtHlInc _ := ⟨_, rfl⟩
  ldAAtHlDec _ := ⟨_, rfl⟩
  ldPairImm16 p nn s := exec_ldPairImm16 p nn s ▸ next_isOutcome _
  ldAtImm16Sp _ _ := ⟨_, rfl⟩
  ldSpHl _ := next_isOutcome _
  ldHlSpRel _ _ := next_isOutcome _
  pushPair p s := ⟨_, exec_pushPair p s⟩
  popPair p s := ⟨_, exec_popPair p s⟩

theorem arithmetic_isOutcome : ArithmeticForms EffectIsOutcome where
  aluReg op r s := exec_aluReg op r s ▸ next_isOutcome _
  aluImm op n s := exec_aluImm op n s ▸ next_isOutcome _
  aluAtHl op s := ⟨_, exec_aluAtHl op s⟩
  incReg r s := exec_incReg r s ▸ next_isOutcome _
  decReg r s := exec_decReg r s ▸ next_isOutcome _
  incAtHl _ := ⟨_, rfl⟩
  decAtHl _ := ⟨_, rfl⟩
  addHlPair p s := exec_addHlPair p s ▸ next_isOutcome _
  addSpRel _ _ := next_isOutcome _
  incPair p s := exec_incPair p s ▸ next_isOutcome _
  decPair p s := exec_decPair p s ▸ next_isOutcome _
  rlca _ := next_isOutcome _
  rrca _ := next_isOutcome _
  rla _ := next_isOutcome _
  rra _ := next_isOutcome _
  daa _ := next_isOutcome _
  cpl _ := next_isOutcome _
  scf _ := next_isOutcome _
  ccf _ := next_isOutcome _
  nop _ := next_isOutcome _

theorem control_isOutcome : ControlForms EffectIsOutcome where
  jpImm16 _ _ := next_isOutcome _
  jpHl _ := next_isOutcome _
  jrRel _ _ := next_isOutcome _
  jpCond cc nn s := exec_jpCond cc nn s ▸ ifCond_isOutcome _ _ _
  jrCond cc n s := exec_jrCond cc n s ▸ ifCond_isOutcome _ _ _
  callImm16 _ _ := ⟨_, rfl⟩
  callCond cc nn s := exec_callCond cc nn s ▸ ifCond_isOutcome _ _ _
  rstTo y s := ⟨_, exec_rstTo y s⟩
  ret _ := ⟨_, rfl⟩
  retCond cc s := exec_retCond cc s ▸ ifCond_isOutcome _ _ _
  reti _ := ⟨_, rfl⟩
  halt _ := next_isOutcome _
  stop _ _ := next_isOutcome _
  di _ := next_isOutcome _
  ei _ := next_isOutcome _
  unassigned _ _ h s := ⟨_, exec_of_mem_unassignedRows h s⟩

theorem cb_isOutcome : CbForms EffectIsOutcome where
  rotReg k r s := exec_rotReg k r s ▸ next_isOutcome _
  rotAtHl k s := ⟨_, exec_rotAtHl k s⟩
  bitReg n r s := exec_bitReg n r s ▸ next_isOutcome _
  bitAtHl n s := ⟨_, exec_bitAtHl n s⟩
  resReg n r s := exec_resReg n r s ▸ next_isOutcome _
  resAtHl n s := ⟨_, exec_resAtHl n s⟩
  setReg n r s := exec_setReg n r s ▸ next_isOutcome _
  setAtHl n s := ⟨_, exec_setAtHl n s⟩

/-- The effect of every instruction is a next state or a raise. -/
theorem exec_isOutcome (i : Instr) (s : State) : IsOutcome (exec i s) :=
  Instr.of_forms (P := EffectIsOutcome) load_isOutcome arithmetic_isOutcome control_isOutcome cb_isOutcome i s

/-- An effect faults only by a raise (R130). -/
theorem exec_fault {i : Instr} {s : State} {q : Fault} (h : exec i s = .fault q) :
    ∃ record left, q = .raised record left := by
  obtain ⟨r, hr⟩ := exec_isOutcome i s
  obtain ⟨record, left, -, hq⟩ := Res.outcome_fault.mp (hr ▸ h)
  exact ⟨record, left, hq⟩

/-- Where a step exists, it faults only by a raise of its fetch or of its effect (R121, R130). -/
theorem step_fault {s : State} {q : Fault} (hf : s.fault = none) (hh : s.halted = false) (h : step s = .fault q) :
    ∃ record left, q = .raised record left := by
  unfold step at h
  rw [runStep_ready hf hh] at h
  cases hfetch : fetchInstr s with
  | raised record left =>
    rw [hfetch] at h
    cases h
    exact ⟨record, left, rfl⟩
  | ok i u =>
    rw [hfetch] at h
    cases hexec : exec i u with
    | fault q' =>
      simp only [hexec, Host.Outcome.fault.injEq] at h
      exact h ▸ exec_fault hexec
    | next | refused => simp [hexec] at h

/-! ### Where a step exists (R121) -/

/-- Settles O9: a latched fault or `halted` ends the step before the fetch, and a step that fetches faults only by a raise. -/
theorem stepExistsIff : Obligations.StepExistsIff := by
  intro s
  constructor
  · rintro h ⟨hf, hh⟩
    rcases h with ⟨r, h⟩ | h <;> obtain ⟨record, left, hq⟩ := step_fault hf hh h <;> cases hq
  · intro h
    cases hf : s.fault with
    | some record => exact .inl ⟨record, by simp [step, runStep, hf]⟩
    | none =>
      have hh : s.halted = true := by simpa [hf] using h
      exact .inr (by simp [step, runStep, hf, hh])

end Sys2Proof.Machine
end

section
/-! The consequences of the 3-bit half-carry and of the borrow test (R141, R143, R151): what the predicates say of the operands
INC, DEC and the subtractions give them, and the flags these instructions leave in every operand form. -/

namespace Sys2Proof.Machine

open Sys2Proof

/-! ### The predicates (R141, R143) -/

/-- The half-carry of INC: only three one bits carry out of bit 2 (R151 (a)). -/
theorem halfAdd_one (v : Byte) : halfAdd v 1 false = true ↔ v &&& 7 = 7 := by
  have hle : (v &&& 7).toNat ≤ 7 := BitVec.toNat_and v 7 ▸ Nat.and_le_right
  have hone : ((1 : Byte) &&& 0x07).toNat = 1 := rfl
  simp only [halfAdd, decide_eq_true_iff, hone, Bool.toNat_false, ← BitVec.toNat_inj (x := v &&& 7)]
  have hseven : (7 : Byte).toNat = 7 := rfl
  omega

/-- A subtrahend of at most `2 ^ k` never borrows at bit `k`: where the bit is set, the low bits are at least `2 ^ k`. -/
theorem borrowAt_eq_false_of_le {k n : Nat} (a : Byte) (h : n ≤ 2 ^ k) : borrowAt k a n = false := by
  cases hbit : a.getLsbD k with
  | false => simp [borrowAt, hbit]
  | true =>
    have hlow : 2 ^ k ≤ a.toNat % 2 ^ (k + 1) := Nat.ge_two_pow_of_testBit (by simpa [BitVec.getLsbD] using hbit)
    simp only [borrowAt, hbit, Bool.true_and, decide_eq_false_iff_not]
    omega

/-- A subtrahend larger than the minuend borrows where the bit is set. -/
theorem borrowAt_of_lt {k n : Nat} {a : Byte} (h : a.toNat < n) : borrowAt k a n = a.getLsbD k := by
  have hlow : a.toNat % 2 ^ (k + 1) < n := (Nat.mod_le _ _).trans_lt h
  simp [borrowAt, hlow]

/-- A borrow out of bit 7 needs a minuend of at least 0x80 and a larger subtrahend (R151 (c)). -/
theorem borrowFull_iff (a : Byte) (n : Nat) : borrowFull a n = true ↔ a.toNat ≥ 0x80 ∧ n > a.toNat := by
  have hbit : a.getLsbD 7 = decide (a.toNat ≥ 0x80) := BitVec.msb_eq_getLsbD_last a ▸ BitVec.msb_eq_decide a
  have hmod : a.toNat % 2 ^ (7 + 1) = a.toNat := Nat.mod_eq_of_lt a.isLt
  rw [borrowFull, borrowAt, hbit, hmod, Bool.and_eq_true_iff, decide_eq_true_iff, decide_eq_true_iff]

/-- The half-borrow of a byte from itself compares the whole byte with its low nibble (R151 (d)). -/
theorem borrowHalf_self (a : Byte) : borrowHalf a a.toNat = true ↔ a.getLsbD 3 = true ∧ a.toNat ≥ 0x10 := by
  have hlow : a.toNat > a.toNat % 16 ↔ a.toNat ≥ 0x10 := by omega
  simp [borrowHalf, borrowAt, hlow]

/-! ### The flags each form leaves -/

section
variable {s t u : State}

/-- The four flags after a flag write; `none` leaves the old flag (R27). -/
theorem flagsAre_setFlags (s : State) (z n h c : Option Bool) :
    Safety.flagsAre (z.getD s.flagZ) (n.getD s.flagN) (h.getD s.flagH) (c.getD s.flagC) s (s.setFlags z n h c) :=
  ⟨s.flagZ_setFlags z n h c, s.flagN_setFlags z n h c, s.flagH_setFlags z n h c, s.flagC_setFlags z n h c,
    s.setFlags_low z n h c⟩

/-- The flags depend on F only. -/
theorem flagsAre_of_f_eq {z n h c : Bool} (hf : u.f = t.f) (ht : Safety.flagsAre z n h c s t) :
    Safety.flagsAre z n h c s u := by
  simpa only [Safety.flagsAre, State.flagZ, State.flagN, State.flagH, State.flagC, hf] using ht

/-- The flags of SUB and CP (R216, R231). -/
theorem flagsAre_subFlags (x : Byte) (s : State) :
    Safety.flagsAre (s.a - x == 0) true (borrowHalf s.a x.toNat) (borrowFull s.a x.toNat) s (subFlags x s) :=
  flagsAre_setFlags s _ _ _ _

/-- The flags of SBC, with the subtrahend `x + F.C` not reduced (R219). -/
theorem flagsAre_sbcA (x : Byte) (s : State) :
    Safety.flagsAre (s.a - x - bitByte s.flagC == 0) true (borrowHalf s.a (x.toNat + s.flagC.toNat))
      (borrowFull s.a (x.toNat + s.flagC.toNat)) s (sbcA x s) :=
  flagsAre_of_f_eq (State.setReg_keeps_f _ .a _) (flagsAre_setFlags s _ _ _ _)

/-- An accumulator operation in any of its forms updates the state by the operand it reads (R238). -/
theorem exec_of_aluReads {op : AluOp} {i : Instr} {x : Byte} (hx : Safety.aluReads op i s x) :
    exec i s = .next (aluUpdate op x s) := by
  rcases hx with ⟨r, rfl, rfl⟩ | rfl | ⟨rfl, hread⟩
  · exact exec_aluReg op r s
  · exact exec_aluImm op x s
  · exact (exec_aluAtHl op s).trans (fromMem_of_ok hread)

/-- SUB and CP leave the same flags (R216, R231). -/
theorem flagsAre_of_sub_or_cp {i : Instr} {x : Byte} (hx : Safety.aluReads .sub i s x ∨ Safety.aluReads .cp i s x)
    (h : exec i s = .next t) :
    Safety.flagsAre (s.a - x == 0) true (borrowHalf s.a x.toNat) (borrowFull s.a x.toNat) s t := by
  rcases hx with hx | hx <;> cases (exec_of_aluReads hx).symm.trans h
  · exact flagsAre_of_f_eq (State.setReg_keeps_f _ .a _) (flagsAre_subFlags x s)
  · exact flagsAre_subFlags x s

/-- A read-modify-write in either form leaves the F its change writes: the store of the result does not touch it (R77). -/
theorem f_of_stepsByte {onReg : Reg8 → Instr} {atHl i : Instr} {change : Byte → State → Byte × State} {v : Byte}
    (hreg : ∀ r, exec (onReg r) s = modifyReg change r s) (hhl : exec atHl s = modifyAtHl change s)
    (hv : Safety.stepsByte onReg atHl i s v) (h : exec i s = .next t) : t.f = (change v s).2.f := by
  rcases hv with ⟨r, rfl, rfl⟩ | ⟨rfl, hread⟩
  · cases (hreg r).symm.trans h
    exact State.setReg_keeps_f _ r _
  · obtain ⟨w, hw, hwrite⟩ := modifyAtHl_next.mp (hhl.symm.trans h)
    cases hread.symm.trans hw
    exact (memWrite_frame hwrite).f

/-- The flags of INC in either form (R234, R235). -/
theorem flagsAre_of_inc {i : Instr} {v : Byte} (hv : Safety.stepsByte .incReg .incAtHl i s v) (h : exec i s = .next t) :
    Safety.flagsAre (v + 1 == 0) false (halfAdd v 1 false) s.flagC s t :=
  flagsAre_of_f_eq (f_of_stepsByte (change := incByte) (exec_incReg · s) rfl hv h) (flagsAre_setFlags s _ _ _ none)

/-- The flags of DEC in either form (R236, R237). -/
theorem flagsAre_of_dec {i : Instr} {v : Byte} (hv : Safety.stepsByte .decReg .decAtHl i s v) (h : exec i s = .next t) :
    Safety.flagsAre (v - 1 == 0) true (borrowHalf v 1) s.flagC s t :=
  flagsAre_of_f_eq (f_of_stepsByte (change := decByte) (exec_decReg · s) rfl hv h) (flagsAre_setFlags s _ _ _ none)

/-! ### A byte subtracted from itself -/

/-- SUB A,A and CP A,A: only H depends on A (R151 (d)). -/
theorem flags_sub_self (h : exec (.aluReg .sub .a) s = .next t ∨ exec (.aluReg .cp .a) s = .next t) :
    t.flagZ = true ∧ t.flagN = true ∧ t.flagC = false ∧
      (t.flagH = true ↔ s.a.getLsbD 3 = true ∧ s.a.toNat ≥ 0x10) := by
  have hflags : Safety.flagsAre (s.a - s.a == 0) true (borrowHalf s.a s.a.toNat) (borrowFull s.a s.a.toNat) s t := by
    rcases h with h | h
    · exact flagsAre_of_sub_or_cp (.inl (.inl ⟨.a, rfl, rfl⟩)) h
    · exact flagsAre_of_sub_or_cp (.inr (.inl ⟨.a, rfl, rfl⟩)) h
  obtain ⟨hz, hn, hh, hc, -⟩ := hflags
  have hborrow : borrowFull s.a s.a.toNat = false :=
    Bool.eq_false_iff.mpr fun hb => lt_irrefl _ ((borrowFull_iff _ _).mp hb).2
  exact ⟨hz.trans (by simp), hn, hc.trans hborrow, hh ▸ borrowHalf_self s.a⟩

/-- SBC A,A with the carry: the subtrahend is A + 1, larger than A and than its low nibble, so bits 7 and 3 of A decide C and H
(R151 (e)). -/
theorem sbc_self (hcarry : s.flagC = true) (h : exec (.aluReg .sbc .a) s = .next t) :
    t.a = 0xFF ∧ t.flagZ = false ∧ t.flagN = true ∧ t.flagC = s.a.getLsbD 7 ∧ t.flagH = s.a.getLsbD 3 := by
  cases (exec_aluReg .sbc .a s).symm.trans h
  obtain ⟨hz, hn, hh, hc, -⟩ := flagsAre_sbcA s.a s
  have hres : s.a - s.a - bitByte s.flagC = 0xFF := by
    rw [BitVec.sub_self, hcarry]
    rfl
  have hlt : s.a.toNat < s.a.toNat + s.flagC.toNat := by simp [hcarry]
  rw [hres] at hz
  exact ⟨hres, hz, hn, hc.trans (borrowAt_of_lt hlt), hh.trans (borrowAt_of_lt hlt)⟩

end

/-! ### The statement -/

/-- Settles O29: the flags of each instruction in every operand form are the predicates at its operands, and R151 is what these
predicates say there. -/
theorem flagPredicateConsequences : Obligations.FlagPredicateConsequences := by
  refine ⟨fun s t i v hv h => ?inc, fun s t i v hv h => ?dec, fun s t i x hx h => ?subOrCp, fun s t i x hx h => ?sbc,
    fun _ _ h => flags_sub_self h, fun _ _ hcarry h => sbc_self hcarry h⟩
  case inc =>
    obtain ⟨-, -, hh, -, -⟩ := flagsAre_of_inc hv h
    exact hh ▸ halfAdd_one v
  case dec =>
    obtain ⟨-, -, hh, -, -⟩ := flagsAre_of_dec hv h
    exact hh.trans (borrowAt_eq_false_of_le v (by decide))
  case subOrCp =>
    obtain ⟨-, -, -, hc, -⟩ := flagsAre_of_sub_or_cp hx h
    exact hc ▸ borrowFull_iff s.a x.toNat
  case sbc =>
    cases (exec_of_aluReads hx).symm.trans h
    obtain ⟨-, -, -, hc, -⟩ := flagsAre_sbcA x s
    exact hc ▸ borrowFull_iff s.a (x.toNat + s.flagC.toNat)

end Sys2Proof.Machine
end

section
/-! The sample words, and the loads and stores of one byte (R162 to R181): the row of a form, then what an
access does where its address answers and where it raises, then each form by its operation. -/

namespace Sys2Proof.Machine

open Sys2Proof

/-! ### Words of the encodings -/

/-- Listed bytes alone decode to their instruction with nothing left (R123). -/
theorem decode_of_listed_alone {own : List Byte} {i : Instr} (h : Listed own i) : decode own = .ok (i, []) := by
  simpa only [List.append_nil] using decode_of_listed h []

/-- Settles O5: each word is listed in the table of its family. -/
theorem sampleWordsDecode : Obligations.SampleWordsDecode :=
  ⟨decode_of_listed_alone (.plain rfl), decode_of_listed_alone (.plain rfl), decode_of_listed_alone (.imm8 rfl 0x42),
    decode_of_listed_alone (.imm16 rfl 0xC100), decode_of_listed_alone (.plain rfl), decode_of_listed_alone (.plain rfl),
    decode_of_listed_alone (.imm8 rfl 0xFD), decode_of_listed_alone (.plain rfl), decode_of_listed_alone (.cb 0x12),
    decode_of_listed_alone (.cb 0x7C), decode_of_listed_alone (.plain rfl)⟩

/-! ### The row of an instruction -/

/-- The bytes and the cost make the row: the fetch of every encoding raises as `fetchFaults` says (R103, R122). -/
theorem rowIs_of_encode {i : Instr} {bytes : List Byte} {cycles : Nat} {notTaken : Option Nat}
    (hbytes : encode i = bytes) (hcost : cost i = ⟨cycles, notTaken⟩) : Safety.rowIs i bytes cycles notTaken :=
  ⟨hbytes, by rw [hcost], by rw [hcost], hbytes ▸ instructionFetchFaults i⟩

/-! ### An access that answers or raises (R372) -/

/-- The address of LDH and LD (C) as the rules compute it (R174 to R177, D34). -/
theorem ioAddr_eq_add (n : Byte) : ioAddr n = 0xFF00 + n.zeroExtend 16 := by
  revert n
  decide

section
variable {s : State} {o : Step}

/-- An effect that has its result for the byte a read answers, and raises with the read, is a load (R372). -/
theorem loadsAt_of_memRead {addr : Word} {result : Byte → Step → Prop} (hok : ∀ v, memRead s addr = .ok v → result v o)
    (herror : ∀ record, memRead s addr = .error record → o = .fault (.raised record { s with fault := some record })) :
    Safety.loadsAt addr s o result := by
  refine ⟨fun hanswers => ?_, fun hraises => herror _ (memRead_error_of hraises)⟩
  obtain ⟨v, hv⟩ := memRead_ok_of (s := s) hanswers
  exact ⟨v, hv, hok v hv⟩

/-- An effect that finishes the state a write answers, and raises with the write, is a store (R372). -/
theorem storesAt_of_memWrite {addr : Word} {v : Byte} {finish : State → State}
    (hok : ∀ t, memWrite s addr v = .ok t → o = .next (finish t))
    (herror : ∀ record, memWrite s addr v = .error record → o = .fault (.raised record { s with fault := some record })) :
    Safety.storesAt addr v s o finish := by
  refine ⟨fun hanswers => ?_, fun hraises => herror _ (memWrite_error_of hraises)⟩
  obtain ⟨t, ht⟩ := memWrite_ok_of (s := s) (v := v) hanswers
  exact ⟨t, ht, hok t ht⟩

/-- A source operand in memory: the result need only hold of the update by whatever byte is read (R164, R238). -/
theorem loadsAt_of_fromMem {update : Byte → State → State} {addr : Word} {result : Byte → Step → Prop}
    (ho : o = fromMem update addr s) (hresult : ∀ v, result v (.next (update v s))) :
    Safety.loadsAt addr s o result :=
  ho ▸ loadsAt_of_memRead (fun v hv => fromMem_of_ok hv ▸ hresult v) fun _ => fromMem_of_error

/-- A store of one byte: the state after it is the state after the bus write. -/
theorem storesAt_of_storeMem {addr : Word} {v : Byte} (ho : o = storeMem addr v s) : Safety.storesAt addr v s o id :=
  ho ▸ storesAt_of_memWrite (fun _ => storeMem_next.mpr) fun _ => storeMem_of_error

/-! ### The forms that move HL -/

/-- A load that raises leaves HL (R180, R181). -/
theorem loadThenHl_of_error {delta : Word} {record : FaultRecord} (h : memRead s s.hl = .error record) :
    loadThenHl delta s = .fault (.raised record { s with fault := some record }) := by
  rw [loadThenHl, readByte_of_error h, raise_andThen, raise_outcome]

/-- A store that raises leaves HL (R178, R179). -/
theorem storeThenHl_of_error {delta : Word} {record : FaultRecord} (h : memWrite s s.hl s.a = .error record) :
    storeThenHl delta s = .fault (.raised record { s with fault := some record }) := by
  rw [storeThenHl, writeByte_of_error h, raise_andThen, raise_outcome]

/-- No bus write moves HL. -/
theorem memWrite_keeps_hl {t : State} {addr : Word} {v : Byte} (h : memWrite s addr v = .ok t) : t.hl = s.hl := by
  have hreg := (memWrite_frame h).reg
  exact congrArg₂ word (hreg .h) (hreg .l)

/-- The load is at the old HL, and A and the new HL are its only changes (R180, R181). -/
theorem loadsAt_of_loadThenHl {delta : Word} (ho : o = loadThenHl delta s) :
    Safety.loadsAt s.hl s o fun v out => out = .next ({ s with a := v }.setHl (s.hl + delta)) :=
  ho ▸ loadsAt_of_memRead (fun v hv => loadThenHl_next.mpr ⟨v, hv, rfl⟩) fun _ => loadThenHl_of_error

/-- The store is at the old HL, and the new HL is counted from it (R178, R179). -/
theorem storesAt_of_storeThenHl {delta : Word} (ho : o = storeThenHl delta s) :
    Safety.storesAt s.hl s.a s o fun t => t.setHl (s.hl + delta) :=
  ho ▸ storesAt_of_memWrite (fun t ht => storeThenHl_next.mpr ⟨t, ht, by rw [memWrite_keeps_hl ht]⟩)
    fun _ => storeThenHl_of_error

end

/-! ### The statements -/

/-- Settles O30: the effect is the register write, and `State.reg_setReg` says what it leaves. -/
theorem loadRegister : Obligations.LoadRegister := by
  refine fun s r => ⟨fun q => ⟨rowIs_of_encode ?_ ?_, exec_ldRegReg r q s, fun q' => s.reg_setReg r q' (s.reg q)⟩,
    fun n => ⟨rowIs_of_encode ?_ ?_, exec_ldRegImm r n s⟩⟩
  · cases r <;> cases q <;> rfl
  · cases r <;> cases q <;> rfl
  · cases r <;> rfl
  · cases r <;> rfl

/-- Settles O31: each form reads its operand in memory, and its update puts the byte into the register. -/
theorem loadFromMemory : Obligations.LoadFromMemory := by
  intro s
  have intoA {i : Instr} {addr : Word} (hexec : exec i s = fromMem (loadInto .a) addr s) :
      Safety.loadsAt addr s (exec i s) fun v o => o = .next { s with a := v } := loadsAt_of_fromMem hexec fun _ => rfl
  simp only [← ioAddr_eq_add]
  refine ⟨fun r => ⟨rowIs_of_encode ?_ ?_, loadsAt_of_fromMem (exec_ldRegAtHl r s) fun _ => rfl⟩,
    ⟨rowIs_of_encode rfl rfl, intoA rfl⟩, ⟨rowIs_of_encode rfl rfl, intoA rfl⟩,
    fun nn => ⟨rowIs_of_encode rfl rfl, intoA rfl⟩, fun n => ⟨rowIs_of_encode rfl rfl, intoA rfl⟩,
    rowIs_of_encode rfl rfl, intoA rfl⟩
  · cases r <;> rfl
  · cases r <;> rfl

/-- Settles O32: each form is a store of one byte. -/
theorem storeToMemory : Obligations.StoreToMemory := by
  intro s
  simp only [← ioAddr_eq_add]
  refine ⟨fun r => ⟨rowIs_of_encode ?_ ?_, storesAt_of_storeMem (exec_ldAtHlReg r s)⟩,
    fun n => ⟨rowIs_of_encode rfl rfl, storesAt_of_storeMem rfl⟩, ⟨rowIs_of_encode rfl rfl, storesAt_of_storeMem rfl⟩,
    ⟨rowIs_of_encode rfl rfl, storesAt_of_storeMem rfl⟩, fun nn => ⟨rowIs_of_encode rfl rfl, storesAt_of_storeMem rfl⟩,
    fun n => ⟨rowIs_of_encode rfl rfl, storesAt_of_storeMem rfl⟩, rowIs_of_encode rfl rfl, storesAt_of_storeMem rfl⟩
  · cases r <;> rfl
  · cases r <;> rfl

/-- Settles O33: a step back of HL is a step by -1. -/
theorem loadStoreMovingHl : Obligations.LoadStoreMovingHl := by
  intro s
  simp only [BitVec.sub_eq_add_neg]
  exact ⟨⟨rowIs_of_encode rfl rfl, storesAt_of_storeThenHl rfl⟩, ⟨rowIs_of_encode rfl rfl, storesAt_of_storeThenHl rfl⟩,
    ⟨rowIs_of_encode rfl rfl, loadsAt_of_loadThenHl rfl⟩, ⟨rowIs_of_encode rfl rfl, loadsAt_of_loadThenHl rfl⟩⟩

end Sys2Proof.Machine
end

section
/-! The 16-bit loads and the stack instructions (R190 to R198, R251): what a push and a pop do where their accesses answer and
where either raises, the displacement from SP with its flags, then each form by its operation. -/

namespace Sys2Proof.Machine

open Sys2Proof

/-! ### Two stores (R191) -/

section
variable {s u : State} {nn : Word} {record : FaultRecord}

/-- Where the first store raises, nothing has changed. -/
theorem storeSp_of_error_low (h : memWrite s nn (lo s.sp) = .error record) :
    storeSp nn s = .fault (.raised record { s with fault := some record }) := by
  rw [storeSp, writeByte_of_error h, raise_andThen, raise_outcome]

/-- Where the second store raises, the low byte is stored. -/
theorem storeSp_of_error_high (hlow : memWrite s nn (lo s.sp) = .ok u)
    (h : memWrite u (nn + 1) (hi u.sp) = .error record) :
    storeSp nn s = .fault (.raised record { u with fault := some record }) := by
  rw [storeSp, writeByte_of_ok hlow, Res.ok_andThen, writeByte_of_error h, raise_outcome]

end

/-! ### A push (R197) -/

section
variable {s u : State} {w : Word} {o : Step}

/-- Where the first store raises, SP is 1 lower and nothing is stored. -/
theorem push16_of_error_high {record : FaultRecord}
    (h : memWrite { s with sp := s.sp - 1 } (s.sp - 1) (hi w) = .error record) :
    push16 w s = raise record { s with sp := s.sp - 1 } := by
  rw [push16, writeByte_of_error h, raise_andThen]

/-- Where the second store raises, the high byte is stored. -/
theorem push16_of_error_low {record : FaultRecord}
    (hhigh : memWrite { s with sp := s.sp - 1 } (s.sp - 1) (hi w) = .ok u)
    (h : memWrite { u with sp := u.sp - 1 } (u.sp - 1) (lo w) = .error record) :
    push16 w s = raise record { u with sp := u.sp - 1 } := by
  rw [push16, writeByte_of_ok hhigh, Res.ok_andThen, writeByte_of_error h]

/-- The store of the high byte leaves SP, so the low byte goes to SP - 2 of the state before. -/
theorem sp_sub_one_of_push_high {v : Byte} (h : memWrite { s with sp := s.sp - 1 } (s.sp - 1) v = .ok u) :
    u.sp - 1 = s.sp - 2 := by
  rw [(memWrite_frame h).sp, BitVec.sub_sub]
  rfl

/-- An effect that finishes the state a push answers, and raises with the push, is a push. -/
theorem pushes_of_push16 {finish : State → State} (hok : ∀ t, push16 w s = .ok () t → o = .next (finish t))
    (herror : ∀ record left, push16 w s = .raised record left → o = .fault (.raised record left)) :
    Safety.pushes w s o finish := by
  refine ⟨fun hfirst hsecond => ?bothAnswer, fun hfirst => ?highRaises, fun hfirst hsecond => ?lowRaises⟩
  case bothAnswer =>
    obtain ⟨u, hu⟩ := memWrite_ok_of (s := { s with sp := s.sp - 1 }) (v := hi w) hfirst
    obtain ⟨t, ht⟩ := memWrite_ok_of (s := { u with sp := s.sp - 2 }) (v := lo w) hsecond
    have hpush : push16 w s = .ok () t := push16_ok.mpr ⟨u, hu, by rwa [sp_sub_one_of_push_high hu]⟩
    exact ⟨u, t, hu, ht, hok t hpush⟩
  case highRaises => exact herror _ _ (push16_of_error_high (memWrite_error_of hfirst))
  case lowRaises =>
    obtain ⟨u, hu⟩ := memWrite_ok_of (s := { s with sp := s.sp - 1 }) (v := hi w) hfirst
    rw [← sp_sub_one_of_push_high hu] at hsecond ⊢
    exact ⟨u, hu, herror _ _ (push16_of_error_low hu (memWrite_error_of hsecond))⟩

/-- The effect of PUSH is the push alone (R194). -/
theorem pushes_of_outcome (ho : o = (push16 w s).outcome) : Safety.pushes w s o id :=
  pushes_of_push16 (fun _ h => by rw [ho, h]; rfl) fun _ _ h => by rw [ho, h]; rfl

end

/-! ### A pop (R198) -/

section
variable {s : State} {low : Byte} {o : Step}

/-- Where the first load raises, SP is not moved. -/
theorem pop16_of_error_low {record : FaultRecord} (h : memRead s s.sp = .error record) : pop16 s = raise record s := by
  rw [pop16, readByte_of_error h, raise_andThen]

/-- Where the second load raises, SP is 1 higher. -/
theorem pop16_of_error_high {record : FaultRecord} (hlow : memRead s s.sp = .ok low)
    (h : memRead s (s.sp + 1) = .error record) : pop16 s = raise record { s with sp := s.sp + 1 } := by
  have hread : readByte (s.sp + 1) { s with sp := s.sp + 1 } = raise record { s with sp := s.sp + 1 } := readByte_of_error h
  rw [pop16, readByte_of_ok hlow, Res.ok_andThen]
  dsimp only
  rw [hread, raise_andThen]

/-- Where both loads answer, the word is popped and SP is 2 higher. -/
theorem pop16_of_ok {high : Byte} (hlow : memRead s s.sp = .ok low) (hhigh : memRead s (s.sp + 1) = .ok high) :
    pop16 s = .ok (word high low) { s with sp := s.sp + 2 } :=
  pop16_ok.mpr ⟨low, high, hlow, hhigh, rfl, by rw [BitVec.add_assoc]; rfl⟩

/-- An effect that finishes the state a pop answers by the popped bytes, and raises with the pop, is a pop. -/
theorem pops_of_pop16 {finish : Byte → Byte → State → State}
    (hok : ∀ high low t, pop16 s = .ok (word high low) t → o = .next (finish high low t))
    (herror : ∀ record left, pop16 s = .raised record left → o = .fault (.raised record left)) :
    Safety.pops s o finish := by
  refine ⟨fun hfirst hsecond => ?bothAnswer, fun hfirst => ?lowRaises, fun hfirst hsecond => ?highRaises⟩
  case bothAnswer =>
    obtain ⟨low, hlow⟩ := memRead_ok_of (s := s) hfirst
    obtain ⟨high, hhigh⟩ := memRead_ok_of (s := s) hsecond
    exact ⟨low, high, hlow, hhigh, hok high low _ (pop16_of_ok hlow hhigh)⟩
  case lowRaises => exact herror _ _ (pop16_of_error_low (memRead_error_of hfirst))
  case highRaises =>
    obtain ⟨low, hlow⟩ := memRead_ok_of (s := s) hfirst
    exact herror _ _ (pop16_of_error_high hlow (memRead_error_of hsecond))

/-- The effect of POP writes its pair by the popped bytes (R195, R196). -/
theorem pops_of_popInto {p : StackPair} {finish : Byte → Byte → State → State} (ho : o = popInto p s)
    (hfinish : ∀ high low t, t.setStackPair p (word high low) = finish high low t) : Safety.pops s o finish := by
  subst ho
  refine pops_of_pop16 (fun high low t h => ?_) fun record left h => ?_
  · exact popInto_next.mpr ⟨_, t, h, hfinish high low t ▸ rfl⟩
  · rw [popInto, h, Res.raised_andThen]
    rfl

end

/-! ### What a push leaves in RAM (R197, R78) -/

/-- A write to RAM changes `mem` alone (R53, R55). -/
theorem eq_of_memWrite_ram {s t : State} {addr : Word} {v : Byte} (h : Safety.ramAddress addr = true)
    (hw : memWrite s addr v = .ok t) : t = { s with mem := t.mem } := by
  obtain ⟨r, a, hr, hans⟩ := Answers.of_ramAddress (m := s.biosMapped) h
  cases (memWrite_stored hans hr).symm.trans hw
  rfl

/-- RAM answers every write (R55, R372). -/
theorem writeFaults_of_ramAddress {addr : Word} (h : Safety.ramAddress addr = true) : Safety.writeFaults addr = false := by
  simp only [Safety.ramAddress, Bool.or_eq_true, Bool.and_eq_true, decide_eq_true_eq] at h
  rw [← Bool.not_eq_true, writeFaults_iff]
  omega

/-- A store to RAM does not reach the next address: the echo is 0x2000 away, and the latch is not RAM (R62, R69). -/
theorem not_storeReaches_next {a b : Word} (ha : Safety.ramAddress a = true) (hb : b = a + 1) :
    ¬ Safety.storeReaches a b := by
  have hnext : b.toNat = (a.toNat + 1) % 65536 := by rw [hb]; exact BitVec.toNat_add a 1
  rintro ((rfl | ⟨_, _, h⟩ | ⟨_, _, h⟩) | ⟨rfl, _⟩)
  · omega
  · omega
  · omega
  · exact absurd ha (by decide)

/-- A push into RAM changes SP and `mem` alone, and its two bytes are read back: the low byte at the new SP, the high byte above
it. -/
theorem push16_ram {s : State} (w : Word) (hhigh : Safety.ramAddress (s.sp - 1) = true)
    (hlow : Safety.ramAddress (s.sp - 2) = true) :
    ∃ t, push16 w s = .ok () t ∧ t = { s with sp := s.sp - 2, mem := t.mem } ∧
      memRead t (s.sp - 2) = .ok (lo w) ∧ memRead t (s.sp - 1) = .ok (hi w) := by
  obtain ⟨u, hu⟩ := memWrite_ok_of (s := { s with sp := s.sp - 1 }) (v := hi w) (writeFaults_of_ramAddress hhigh)
  obtain ⟨t, ht⟩ := memWrite_ok_of (s := { u with sp := s.sp - 2 }) (v := lo w) (writeFaults_of_ramAddress hlow)
  have hnext : s.sp - 1 = s.sp - 2 + 1 := by bv_omega
  have hkept : memRead t (s.sp - 1) = memRead { u with sp := s.sp - 2 } (s.sp - 1) :=
    memRead_of_not_storeReaches ht (not_storeReaches_next hlow hnext)
  have hpush : push16 w s = .ok () t := push16_ok.mpr ⟨u, hu, by rwa [sp_sub_one_of_push_high hu]⟩
  refine ⟨t, hpush, ?_, (loadAfterStore _ _ _ _ ht).1 hlow, ?_⟩
  · have hfirst := eq_of_memWrite_ram hhigh hu
    have hsecond := eq_of_memWrite_ram hlow ht
    rw [hfirst] at hsecond
    exact hsecond
  · rw [hkept, memRead_of_busPart (State.busPart_setSp u _)]
    exact (loadAfterStore _ _ _ _ hu).1 hhigh

/-! ### The displacement from SP (R193, R251) -/

/-- The signed displacement of a byte, added to a word modulo 65536 (R16, R149). -/
theorem displaced_add_sext8 (base : Word) (b : Byte) : Safety.displaced base b (base + sext8 b) := by
  have hsext : (sext8 b).toInt = b.toInt := BitVec.toInt_signExtend_of_le (by decide)
  have hcond := BitVec.toInt_eq_toNat_cond (sext8 b)
  rw [Safety.displaced, BitVec.toNat_add, ← hsext, hcond]
  split <;> omega

/-- The half-carry without a carry in, in numbers (R141). -/
theorem halfAdd_eq_decide (a b : Byte) : halfAdd a b false = decide (a.toNat % 8 + b.toNat % 8 > 7) := by
  have hlow (v : Byte) : (v &&& 0x07).toNat = v.toNat % 8 := Nat.and_two_pow_sub_one_eq_mod v.toNat 3
  simp only [halfAdd, hlow, Bool.toNat_false, Nat.add_zero]

/-- The low byte of a word, in numbers (R22). -/
theorem toNat_lo (w : Word) : (lo w).toNat = w.toNat % 256 := by
  rw [lo, BitVec.extractLsb'_toNat, Nat.shiftRight_zero]

/-- The flags of the displacement are those of R193 (D10): from the low byte of SP and the raw byte. -/
theorem flagsAre_spRelFlags (s : State) (b : Byte) :
    Safety.flagsAre false false (decide (s.sp.toNat % 8 + b.toNat % 8 > 7)) (decide (s.sp.toNat % 256 + b.toNat > 255)) s
      (s.spRelFlags flagPredicates b) := by
  have hhalf : halfAdd (lo s.sp) b false = decide (s.sp.toNat % 8 + b.toNat % 8 > 7) := by
    rw [halfAdd_eq_decide, toNat_lo, Nat.mod_mod_of_dvd _ (by decide)]
  have hcarry : carryAdd (lo s.sp) b false = decide (s.sp.toNat % 256 + b.toNat > 255) := by
    rw [← toNat_lo]
    rfl
  rw [← hhalf, ← hcarry]
  exact flagsAre_setFlags s _ _ _ _

/-! ### The statements -/

/-- Settles O34: the effect is the write of the pair, which reads back. -/
theorem loadPair : Obligations.LoadPair := by
  refine fun s => ⟨fun p nn => ⟨rowIs_of_encode ?_ ?_, exec_ldPairImm16 p nn s, s.pair_setPair p nn⟩,
    rowIs_of_encode rfl rfl, rfl⟩
  · cases p <;> rfl
  · cases p <;> rfl

/-- Settles O35: SP of the state after the first store is the old SP, so both bytes are its bytes. -/
theorem storeStackPointer : Obligations.StoreStackPointer := by
  intro s nn
  have hexec : exec (.ldAtImm16Sp nn) s = storeSp nn s := rfl
  rw [hexec]
  refine ⟨rowIs_of_encode rfl rfl, fun hfirst hsecond => ?bothAnswer,
    fun hfirst => storeSp_of_error_low (memWrite_error_of hfirst), fun hfirst hsecond => ?highRaises⟩
  case bothAnswer =>
    obtain ⟨u, hu⟩ := memWrite_ok_of (s := s) (v := lo s.sp) hfirst
    obtain ⟨t, ht⟩ := memWrite_ok_of (s := u) (v := hi s.sp) hsecond
    exact ⟨u, t, hu, ht, storeSp_next.mpr ⟨u, hu, by rwa [(memWrite_frame hu).sp]⟩⟩
  case highRaises =>
    obtain ⟨u, hu⟩ := memWrite_ok_of (s := s) (v := lo s.sp) hfirst
    exact ⟨u, hu, storeSp_of_error_high hu (memWrite_error_of hsecond)⟩

/-- Settles O36: HL or SP gets the displaced SP, and F the flags of R193. -/
theorem stackPointerPlusDisplacement : Obligations.StackPointerPlusDisplacement := by
  intro s b
  have hflags := flagsAre_spRelFlags s b
  exact ⟨rowIs_of_encode rfl rfl, ⟨_, displaced_add_sext8 s.sp b, _, rfl, rfl, hflags⟩,
    rowIs_of_encode rfl rfl, _, displaced_add_sext8 s.sp b, _, rfl, rfl, hflags⟩

/-- Settles O37: the effect is the push of the pair. -/
theorem pushPair : Obligations.PushPair := by
  refine fun s p => ⟨rowIs_of_encode ?_ ?_, pushes_of_outcome (exec_pushPair p s)⟩
  · cases p <;> rfl
  · cases p <;> rfl

/-- Settles O38: the bytes of the popped word are the bytes read, and the write of AF masks the one for F. -/
theorem popPair : Obligations.PopPair := by
  refine fun s => ⟨⟨rowIs_of_encode rfl rfl, pops_of_popInto (p := .bc) rfl ?_⟩,
    ⟨rowIs_of_encode rfl rfl, pops_of_popInto (p := .de) rfl ?_⟩,
    ⟨rowIs_of_encode rfl rfl, pops_of_popInto (p := .hl) rfl ?_⟩,
    rowIs_of_encode rfl rfl, pops_of_popInto (p := .af) rfl ?_⟩
  all_goals
    intro high low t
    simp only [State.setStackPair, State.setHl, hi_word, lo_word]

/-- Settles O39: the push leaves both bytes in RAM, where the pop reads them, and the pop brings SP back. -/
theorem pushThenPop : Obligations.PushThenPop := by
  intro s p q hhigh hlow
  obtain ⟨t, hpush, ht, hreadLow, hreadHigh⟩ := push16_ram (s.stackPair p) hhigh hlow
  have hsp : t.sp = s.sp - 2 := by rw [ht]
  have hnext : t.sp + 1 = s.sp - 1 := by rw [hsp]; bv_omega
  have hback : t.sp + 2 = s.sp := by rw [hsp]; exact BitVec.sub_add_cancel s.sp 2
  have hpop : pop16 t = .ok (s.stackPair p) { t with sp := s.sp } := by
    rw [← hsp] at hreadLow
    rw [← hnext] at hreadHigh
    rw [pop16_of_ok hreadLow hreadHigh, word_hi_lo, hback]
  refine ⟨t, _, (exec_pushPair p s).trans (Res.outcome_next.mpr hpush),
    (exec_popPair q t).trans (popInto_next.mpr ⟨_, _, hpop, rfl⟩), ?_⟩
  rw [ht]
  cases q <;> rfl

end Sys2Proof.Machine
end

section
/-! 8-bit arithmetic and logic (R210 to R238): the predicates in numbers, the operand forms with their rows, then each operation by
the flags its update writes. -/

namespace Sys2Proof.Machine

open Sys2Proof

/-! ### The predicates in numbers (R141 to R143) -/

/-- A bit counts alike as a byte and as a number. -/
@[simp] theorem toNat_bitByte (b : Bool) : (bitByte b).toNat = b.toNat := by cases b <;> rfl

/-- The half-carry with the carry in (R141, D6). -/
theorem halfAdd_eq_decide_carry (a b : Byte) (cin : Bool) :
    halfAdd a b cin = decide (a.toNat % 8 + b.toNat % 8 + cin.toNat > 7) := by
  have hlow (v : Byte) : (v &&& 0x07).toNat = v.toNat % 8 := Nat.and_two_pow_sub_one_eq_mod v.toNat 3
  simp only [halfAdd, hlow]

/-- The carry without a carry in (R142). -/
theorem carryAdd_eq_decide (a b : Byte) : carryAdd a b false = decide (a.toNat + b.toNat > 255) := rfl

/-- The half-carry of INC (R234, D9). -/
theorem halfAdd_one_eq_decide (v : Byte) : halfAdd v 1 false = decide (v.toNat % 8 = 7) := by
  have hone : (1 : Byte).toNat = 1 := rfl
  rw [halfAdd_eq_decide, hone, decide_eq_decide]
  omega

/-- The borrow at bit 3 compares with the low nibble (R143, D7). -/
theorem borrowHalf_eq_decide (a : Byte) (n : Nat) : borrowHalf a n = (a.getLsbD 3 && decide (n > a.toNat % 16)) := rfl

/-- The borrow at bit 7 compares with the whole byte (R143, D7). -/
theorem borrowFull_eq_decide (a : Byte) (n : Nat) : borrowFull a n = (a.getLsbD 7 && decide (n > a.toNat)) := by
  have hmod : a.toNat % 2 ^ (7 + 1) = a.toNat := Nat.mod_eq_of_lt a.isLt
  rw [borrowFull, borrowAt, hmod]

/-- CP compares by the zero of the difference (R231). -/
theorem sub_beq_zero (a x : Byte) : (a - x == 0) = decide (a = x) := by
  rw [beq_eq_decide, decide_eq_decide, sub_eq_zero]

section
variable {s : State} {o : Step}

/-! ### Flags, then a register (R150) -/

/-- A write of the flags alone (R27). -/
theorem flagged_setFlags (s : State) (z n h c : Option Bool) :
    Safety.flagged s (z.getD s.flagZ) (n.getD s.flagN) (h.getD s.flagH) (c.getD s.flagC) (.next (s.setFlags z n h c)) :=
  ⟨_, rfl, rfl, flagsAre_setFlags s z n h c⟩

/-- A write of the flags, then of a register: neither reaches the other. -/
theorem flagged_setFlags_setReg (s : State) (r : Reg8) (v : Byte) (z n h c : Option Bool) :
    Safety.flagged (s.setReg r v) (z.getD s.flagZ) (n.getD s.flagN) (h.getD s.flagH) (c.getD s.flagC)
      (.next ((s.setFlags z n h c).setReg r v)) := by
  refine ⟨_, rfl, ?sameButF, ?flags⟩
  case sameButF => cases r <;> rfl
  case flags => cases r <;> exact flagsAre_setFlags s z n h c

/-! ### The operand forms (R238) -/

/-- The `alu` code (R95). -/
def aluCode (op : AluOp) : Byte :=
  match op with
  | .add => 0
  | .adc => 1
  | .sub => 2
  | .sbc => 3
  | .and => 4
  | .xor => 5
  | .or => 6
  | .cp => 7

theorem rowIs_aluReg (op : AluOp) (r : Reg8) :
    Safety.rowIs (.aluReg op r) [0x80 + 8 * aluCode op + Safety.regCode r] 4 none := by
  refine rowIs_of_encode ?_ ?_
  · cases op <;> cases r <;> rfl
  · cases op <;> cases r <;> rfl

theorem rowIs_aluImm (op : AluOp) (n : Byte) : Safety.rowIs (.aluImm op n) [0xC6 + 8 * aluCode op, n] 8 none := by
  refine rowIs_of_encode ?_ ?_
  · cases op <;> rfl
  · cases op <;> rfl

theorem rowIs_aluAtHl (op : AluOp) : Safety.rowIs (.aluAtHl op) [0x86 + 8 * aluCode op] 8 none := by
  refine rowIs_of_encode ?_ ?_
  · cases op <;> rfl
  · cases op <;> rfl

/-- The three forms of an operation have the result its update has for any operand. -/
theorem aluForms_of_update (op : AluOp) {result : State → Byte → Step → Prop}
    (hresult : ∀ s x, result s x (.next (aluUpdate op x s))) : Safety.aluForms op (aluCode op) result := by
  refine fun s => ⟨fun r => ⟨rowIs_aluReg op r, ?_⟩, fun n => ⟨rowIs_aluImm op n, ?_⟩, rowIs_aluAtHl op, ?_⟩
  · rw [exec_aluReg]
    exact hresult s (s.reg r)
  · rw [exec_aluImm]
    exact hresult s n
  · exact loadsAt_of_fromMem (exec_aluAtHl op s) (hresult s)

/-! ### The read-modify-write of the byte at HL (R77) -/

/-- Where the change writes F alone, HL is where it was, so the store goes where the read was, and answers as it did. -/
theorem modifiesAtHl_of_modifyAtHl {change : Byte → State → Byte × State} {res : Byte → Byte}
    {flags : Byte → State → State → Prop} (ho : o = modifyAtHl change s) (hres : ∀ v, (change v s).1 = res v)
    (honlyF : ∀ v, (change v s).2 = { s with f := (change v s).2.f }) (hflags : ∀ v, flags v s (change v s).2) :
    Safety.modifiesAtHl s o res flags := by
  refine ⟨fun hanswers => ?_, fun hraises => ho.trans (modifyAtHl_of_error (memRead_error_of hraises))⟩
  obtain ⟨v, hv⟩ := memRead_ok_of (s := s) hanswers
  obtain ⟨t, ht⟩ := memWrite_ok_of (s := (change v s).2) (v := res v) (writeFaults_of_readFaults hanswers)
  have hhl : (change v s).2.hl = s.hl := by rw [honlyF v]; rfl
  exact ⟨v, (change v s).2, t, hv, honlyF v, hflags v, ht,
    ho.trans (modifyAtHl_next.mpr ⟨v, hv, by rwa [hhl, hres]⟩)⟩

end

/-! ### The statements -/

/-- Settles O21: the update of ADD is the flags, then A. -/
theorem addToAccumulator : Obligations.AddToAccumulator := by
  refine aluForms_of_update .add fun s x => ?_
  rw [← halfAdd_eq_decide, ← carryAdd_eq_decide]
  exact flagged_setFlags_setReg s .a _ _ _ _ _

/-- Settles O22: the carry in counts as a byte in the sum and as a number in both predicates. -/
theorem addWithCarry : Obligations.AddWithCarry := by
  refine aluForms_of_update .adc fun s x => ?_
  change Safety.flagged _ _ _ (decide (_ + (bitByte s.flagC).toNat > 7)) (decide (_ + (bitByte s.flagC).toNat > 255)) _
  rw [toNat_bitByte, ← halfAdd_eq_decide_carry]
  exact flagged_setFlags_setReg s .a _ _ _ _ _

/-- Settles O23: the borrow test with the operand as the subtrahend. -/
theorem subtractFromAccumulator : Obligations.SubtractFromAccumulator := by
  refine aluForms_of_update .sub fun s x => ?_
  rw [← borrowHalf_eq_decide, ← borrowFull_eq_decide]
  exact flagged_setFlags_setReg s .a _ _ _ _ _

/-- Settles O24: the borrow test with the operand and the borrow as the subtrahend. -/
theorem subtractWithBorrow : Obligations.SubtractWithBorrow := by
  refine aluForms_of_update .sbc fun s x => ?_
  change Safety.flagged _ _ _ (_ && decide (_ + (bitByte s.flagC).toNat > _))
    (_ && decide (_ + (bitByte s.flagC).toNat > _)) _
  rw [toNat_bitByte, ← borrowHalf_eq_decide, ← borrowFull_eq_decide]
  exact flagged_setFlags_setReg s .a _ _ _ _ _

/-- Settles O25: the three operations differ in the result and in H. -/
theorem logicOnAccumulator : Obligations.LogicOnAccumulator :=
  ⟨aluForms_of_update .and fun s _ => flagged_setFlags_setReg s .a _ _ _ _ _,
    aluForms_of_update .xor fun s _ => flagged_setFlags_setReg s .a _ _ _ _ _,
    aluForms_of_update .or fun s _ => flagged_setFlags_setReg s .a _ _ _ _ _⟩

/-- Settles O26: the flags of SUB with no write of A. -/
theorem compareWithAccumulator : Obligations.CompareWithAccumulator := by
  refine aluForms_of_update .cp fun s x => ?_
  rw [← sub_beq_zero, ← borrowHalf_eq_decide, ← borrowFull_eq_decide]
  exact flagged_setFlags s _ _ _ _

/-- Settles O27: in both forms the flags come before the write of the result. -/
theorem incrementByte : Obligations.IncrementByte := by
  intro s
  simp only [← halfAdd_one_eq_decide]
  refine ⟨fun r => ⟨rowIs_of_encode ?_ ?_, ?_⟩, rowIs_of_encode rfl rfl,
    modifiesAtHl_of_modifyAtHl (change := incByte) rfl (fun _ => rfl) (fun _ => rfl) fun _ => flagsAre_setFlags s _ _ _ none⟩
  · cases r <;> rfl
  · cases r <;> rfl
  · rw [exec_incReg]
    exact flagged_setFlags_setReg s r _ _ _ _ none

/-- Settles O28: as INC; the half-borrow of a subtrahend of 1 is never set. -/
theorem decrementByte : Obligations.DecrementByte := by
  intro s
  have hborrow (v : Byte) : borrowHalf v 1 = false := borrowAt_eq_false_of_le v (by decide)
  refine ⟨fun r => ⟨rowIs_of_encode ?_ ?_, ?_⟩, rowIs_of_encode rfl rfl,
    modifiesAtHl_of_modifyAtHl (change := decByte) rfl (fun _ => rfl) (fun _ => rfl) fun v => ?_⟩
  · cases r <;> rfl
  · cases r <;> rfl
  · rw [exec_decReg, ← hborrow (s.reg r)]
    exact flagged_setFlags_setReg s r _ _ _ _ none
  · rw [← hborrow v]
    exact flagsAre_setFlags s _ _ _ none

end Sys2Proof.Machine
end

section
/-! 16-bit arithmetic, the accumulator rotates, DAA, CPL, SCF, CCF and NOP (R250 to R262): the carries of the 16-bit add and the
result of DAA in numbers, the byte rotates, then each operation by the flags it writes. -/

namespace Sys2Proof.Machine

open Sys2Proof

/-! ### The 16-bit add (R146, R250) -/

/-- The carry out of bit 11 (R146, D33). -/
theorem halfAdd16_eq_decide (x y : Word) : halfAdd16 x y = decide (x.toNat % 4096 + y.toNat % 4096 > 4095) := by
  have hlow (w : Word) : (w &&& 0x0FFF).toNat = w.toNat % 4096 := Nat.and_two_pow_sub_one_eq_mod w.toNat 12
  simp only [halfAdd16, hlow]

/-- The carry out of bit 15 (R146, D33). -/
theorem carryAdd16_eq_decide (x y : Word) : carryAdd16 x y = decide (x.toNat + y.toNat > 65535) := rfl

/-- A write of the flags, then of HL: neither reaches the other. -/
theorem flagged_setFlags_setHl (s : State) (w : Word) (z n h c : Option Bool) :
    Safety.flagged { s with h := hi w, l := lo w } (z.getD s.flagZ) (n.getD s.flagN) (h.getD s.flagH) (c.getD s.flagC)
      (.next ((s.setFlags z n h c).setHl w)) :=
  ⟨_, rfl, rfl, flagsAre_setFlags s z n h c⟩

/-! ### The accumulator rotates (R148, R264) -/

/-- Bit 7 as a byte is the part a rotate to the left brings in at bit 0. -/
theorem bitByte_bit7 (v : Byte) : bitByte (v.getLsbD 7) = v >>> 7 := by
  revert v
  decide

/-- Bit 0 put at bit 7 is the part a rotate to the right brings in there. -/
theorem bitByte_bit0_shl (v : Byte) : bitByte (v.getLsbD 0) <<< 7 = v <<< 7 := by
  revert v
  decide

/-- RLC is the rotate to the left (R254). -/
theorem rot_rlc (v : Byte) (cin : Bool) : rot .rlc v cin = (v.rotateLeft 1, v.getLsbD 7) := by
  rw [rot, bitByte_bit7]
  rfl

/-- RRC is the rotate to the right (R255). -/
theorem rot_rrc (v : Byte) (cin : Bool) : rot .rrc v cin = (v.rotateRight 1, v.getLsbD 0) := by
  rw [rot, bitByte_bit0_shl]
  rfl

/-- RL brings the carry in at bit 0 (R256). -/
theorem rot_rl (v : Byte) (cin : Bool) : rot .rl v cin = (v <<< 1 ||| (if cin then 0x01 else 0x00), v.getLsbD 7) := rfl

/-- RR brings the carry in at bit 7 (R257). -/
theorem rot_rr (v : Byte) (cin : Bool) : rot .rr v cin = (v >>> 1 ||| (if cin then 0x80 else 0x00), v.getLsbD 0) := by
  cases cin <;> rfl

/-- A rotate of A with its result and its carry out: Z, N and H are clear (R264, D11). -/
theorem flagged_rotateA {kind : RotKind} {s : State} {res : Byte} {cout : Bool} (h : rot kind s.a s.flagC = (res, cout)) :
    Safety.flagged { s with a := res } false false false cout (.next (rotateA kind s)) := by
  rw [rotateA, rotateAIn, h]
  exact flagged_setFlags_setReg s .a res (some false) (some false) (some false) (some cout)

/-! ### DAA in numbers (R258, D12) -/

/-- A condition of an adjustment: the flag is set, or N is clear and the digit is too large. -/
theorem adjusts_eq_decide (flag n : Bool) (p : Prop) [Decidable p] :
    (flag || (!n && decide p)) = decide (flag = true ∨ (n = false ∧ p)) := by
  cases flag
  · cases n <;> simp
  · simp

/-- The condition of the 0x60 adjustment, which is the new C. -/
def adjustsHigh (s : State) : Bool := decide (s.flagC = true ∨ (s.flagN = false ∧ s.a.toNat > 0x99))

/-- The condition of the 0x06 adjustment. -/
def adjustsLow (s : State) : Bool := decide (s.flagH = true ∨ (s.flagN = false ∧ s.a.toNat % 16 > 9))

/-- The byte that A is moved by. -/
def adjustment (s : State) : Byte := (if adjustsHigh s then 0x60 else 0x00) + (if adjustsLow s then 0x06 else 0x00)

/-- The new A: adjusted up, or down where N is set. -/
def adjusted (s : State) : Byte := if s.flagN then s.a - adjustment s else s.a + adjustment s

/-- DAA by its conditions in numbers. -/
theorem decimalAdjust_eq (s : State) :
    decimalAdjust s =
      (s.setFlags (some (adjusted s == 0)) none (some false) (some (adjustsHigh s))).setReg .a (adjusted s) := by
  have hlow : (s.a &&& 0x0F).toNat = s.a.toNat % 16 := Nat.and_two_pow_sub_one_eq_mod s.a.toNat 4
  simp only [decimalAdjust, adjusts_eq_decide, hlow]
  rfl

/-- The sum of the two adjustments does not wrap. -/
theorem toNat_adjustment (s : State) :
    (adjustment s).toNat = (if adjustsHigh s then 0x60 else 0) + (if adjustsLow s then 0x06 else 0) := by
  rw [adjustment]
  cases adjustsHigh s <;> cases adjustsLow s <;> rfl

/-- The new A modulo 256. -/
theorem toNat_adjusted (s : State) :
    (adjusted s).toNat =
      if s.flagN = true then (s.a.toNat + 256 - (adjustment s).toNat) % 256
      else (s.a.toNat + (adjustment s).toNat) % 256 := by
  rw [adjusted]
  split
  · have hadj := (adjustment s).isLt
    rw [BitVec.toNat_sub]
    omega
  · exact BitVec.toNat_add s.a (adjustment s)

/-- A byte is zero as it is in numbers. -/
theorem toNat_beq_zero (v : Byte) : (v.toNat == 0) = (v == 0) := by
  rw [beq_eq_decide, beq_eq_decide, decide_eq_decide]
  exact (BitVec.toNat_eq (x := v) (y := 0)).symm

/-! ### The statements -/

/-- Settles O40: the flags of the sum come before the write of HL. -/
theorem addPairToHl : Obligations.AddPairToHl := by
  refine fun s p => ⟨rowIs_of_encode ?_ ?_, s.hl + s.pair p, BitVec.toNat_add _ _, ?_⟩
  · cases p <;> rfl
  · cases p <;> rfl
  · rw [exec_addHlPair, ← halfAdd16_eq_decide, ← carryAdd16_eq_decide]
    exact flagged_setFlags_setHl s _ none _ _ _

/-- Settles O41: the effect is the write of the pair, which reads back. -/
theorem incrementDecrementPair : Obligations.IncrementDecrementPair := by
  refine fun s p => ⟨rowIs_of_encode ?_ ?_, exec_incPair p s, rowIs_of_encode ?_ ?_, exec_decPair p s, s.pair_setPair p⟩
  all_goals cases p <;> rfl

/-- Settles O42: each form is the rotate of A by its kind. -/
theorem rotateAccumulator : Obligations.RotateAccumulator := fun s =>
  ⟨⟨rowIs_of_encode rfl rfl, flagged_rotateA (rot_rlc s.a s.flagC)⟩,
    ⟨rowIs_of_encode rfl rfl, flagged_rotateA (rot_rrc s.a s.flagC)⟩,
    ⟨rowIs_of_encode rfl rfl, flagged_rotateA (rot_rl s.a s.flagC)⟩,
    rowIs_of_encode rfl rfl, flagged_rotateA (rot_rr s.a s.flagC)⟩

/-- Settles O43: the rule's result is the new A in numbers. -/
theorem decimalAdjustHolds : Obligations.DecimalAdjust := by
  refine ⟨rowIs_of_encode rfl rfl, fun s => ?_⟩
  have hres := toNat_adjusted s
  simp only [toNat_adjustment, adjustsHigh, adjustsLow, decide_eq_true_eq] at hres
  dsimp only
  rw [← hres, BitVec.ofNat_toNat, BitVec.setWidth_eq, toNat_beq_zero]
  change Safety.flagged _ _ _ _ _ (.next (decimalAdjust s))
  rw [decimalAdjust_eq]
  exact flagged_setFlags_setReg s .a _ (some _) none (some false) (some _)

/-- Settles O44: each form is one write of the flags, on the state with the new A for CPL. -/
theorem complementAndCarryOps : Obligations.ComplementAndCarryOps := fun s =>
  ⟨⟨rowIs_of_encode rfl rfl, flagged_setFlags { s with a := s.a ^^^ 0xFF } none (some true) (some true) none⟩,
    ⟨rowIs_of_encode rfl rfl, flagged_setFlags s none (some false) (some false) (some true)⟩,
    ⟨rowIs_of_encode rfl rfl, flagged_setFlags s none (some false) (some false) (some (!s.flagC))⟩,
    rowIs_of_encode rfl rfl, rfl⟩

end Sys2Proof.Machine
end

section
/-! Control transfer (R270 to R281): a push and a pop with what follows them, a conditional transfer by its condition, then each
form by its operation. -/

namespace Sys2Proof.Machine

open Sys2Proof

/-! ### A push or a pop with what follows it (R197, R198) -/

section
variable {s : State} {o : Step}

/-- A push, then a change of the state that cannot raise. -/
theorem pushes_of_andThen_done {w : Word} {finish : State → State}
    (ho : o = ((push16 w s).andThen fun _ t => done (finish t)).outcome) : Safety.pushes w s o finish :=
  pushes_of_push16 (fun _ h => by rw [ho, h]; rfl) fun _ _ h => by rw [ho, h]; rfl

/-- A pop, then a change of the state by the popped word that cannot raise. -/
theorem pops_of_andThen_done {finish : Word → State → State}
    (ho : o = ((pop16 s).andThen fun w t => done (finish w t)).outcome) :
    Safety.pops s o fun high low t => finish (word high low) t :=
  pops_of_pop16 (fun _ _ _ h => by rw [ho, h]; rfl) fun _ _ h => by rw [ho, h]; rfl

/-- A raise ends three parts where it ends the first two (R130). -/
theorem Res.andThen_assoc {α β γ : Type} (r : Res α) (f : α → State → Res β) (g : β → State → Res γ) :
    (r.andThen f).andThen g = r.andThen fun v t => (f v t).andThen g := by
  cases r <;> rfl

/-! ### A conditional transfer (R277) -/

/-- Where the condition holds the transfer is the unconditional one; where it does not, `notTaken` alone is set (D28). -/
theorem conditional_of_ifCond {cc : Cond} {taken : State → Res Unit} {result : Prop} (ho : o = ifCond cc taken s)
    (htaken : o = (taken s).outcome → result) : Safety.conditional cc s o result := by
  rw [ifCond, condHolds_eq_condition] at ho
  refine ⟨fun hholds => htaken ?_, fun hfails => ?_⟩
  · rw [ho, if_pos hholds]
  · rw [ho, hfails, if_neg Bool.false_ne_true]

end

/-! ### The target of RST (R281) -/

/-- The word that `exec_rstTo` calls, as the rule computes it from the field. -/
theorem rst_target (y : BitVec 3) : word 0x00 (BitVec.ofNat 8 (8 * y.toNat)) = 8 * y.zeroExtend 16 := by
  revert y
  decide

/-! ### The statements -/

/-- Settles O45: each effect is the write of PC, and the relative one adds the sign-extended displacement. -/
theorem jumps : Obligations.Jumps := fun s =>
  ⟨fun _ => ⟨rowIs_of_encode rfl rfl, rfl⟩, ⟨rowIs_of_encode rfl rfl, rfl⟩,
    fun b => ⟨rowIs_of_encode rfl rfl, _, displaced_add_sext8 s.pc b, rfl⟩⟩

/-- Settles O46: the transfer taken is the write of PC of the unconditional jump. -/
theorem conditionalJumps : Obligations.ConditionalJumps := by
  refine fun s cc => ⟨fun nn => ⟨rowIs_of_encode ?_ ?_, conditional_of_ifCond (exec_jpCond cc nn s) id⟩,
    fun b => ⟨rowIs_of_encode ?_ ?_, conditional_of_ifCond (exec_jrCond cc b s) fun htaken =>
      ⟨_, displaced_add_sext8 s.pc b, htaken⟩⟩⟩
  all_goals cases cc <;> rfl

/-- Settles O47: a call is the push of PC, then the write of PC; the conditional one is that call where it is taken, and RST is
the call of eight times its field. -/
theorem calls : Obligations.Calls := by
  refine fun s => ⟨fun nn => ⟨rowIs_of_encode rfl rfl, pushes_of_andThen_done rfl⟩,
    fun cc nn => ⟨rowIs_of_encode ?_ ?_, conditional_of_ifCond (exec_callCond cc nn s) pushes_of_andThen_done⟩,
    fun y => ⟨rowIs_of_encode ?_ ?_, pushes_of_andThen_done ?_⟩⟩
  · cases cc <;> rfl
  · cases cc <;> rfl
  · rcases index_cases y with rfl | rfl | rfl | rfl | rfl | rfl | rfl | rfl <;> rfl
  · rcases index_cases y with rfl | rfl | rfl | rfl | rfl | rfl | rfl | rfl <;> rfl
  · rw [exec_rstTo, rst_target]
    rfl

/-- Settles O48: a return is the pop, then the write of PC; the conditional one is that return where it is taken, and RETI then
sets IME. -/
theorem returns : Obligations.Returns := by
  refine fun s => ⟨⟨rowIs_of_encode rfl rfl, pops_of_andThen_done rfl⟩,
    fun cc => ⟨rowIs_of_encode ?_ ?_, conditional_of_ifCond (exec_retCond cc s) pops_of_andThen_done⟩,
    rowIs_of_encode rfl rfl, pops_of_andThen_done (finish := fun w t => { t with pc := w, ime := true }) ?_⟩
  · cases cc <;> rfl
  · cases cc <;> rfl
  · exact congrArg Res.outcome (Res.andThen_assoc (pop16 s) _ _)

end Sys2Proof.Machine
end

section
/-! The CB-prefixed instructions (R290 to R311): `Rot` in numbers, the bit an index names, the rows of the forms, then each
form by its operation. -/

namespace Sys2Proof.Machine

open Sys2Proof

/-! ### `Rot` in numbers (R148) -/

/-- A bit of a byte, in numbers. -/
theorem toNat_getLsbD (v : Byte) (k : Nat) : (v.getLsbD k).toNat = v.toNat / 2 ^ k % 2 := Nat.toNat_testBit v.toNat k

/-- Bit 7, in numbers. -/
theorem toNat_bit7 (v : Byte) : (v.getLsbD 7).toNat = v.toNat / 128 := by
  have hlt := v.isLt
  rw [toNat_getLsbD]
  omega

/-- Bit 0, in numbers. -/
theorem toNat_bit0 (v : Byte) : (v.getLsbD 0).toNat = v.toNat % 2 := by
  rw [toNat_getLsbD, Nat.pow_zero, Nat.div_one]

/-- A bit is the number 1 where it is set. -/
theorem toNat_beq_one (b : Bool) : (b.toNat == 1) = b := by cases b <;> rfl

/-- A shift to the left with a bit brought in at bit 0. -/
theorem shl_or_bitByte (v : Byte) (b : Bool) : v <<< 1 ||| bitByte b = BitVec.ofNat 8 (2 * v.toNat % 256 + b.toNat) := by
  revert v b
  decide

/-- A shift to the right with a bit brought in at bit 7. -/
theorem shr_or_bitByte (v : Byte) (b : Bool) :
    v >>> 1 ||| bitByte b <<< 7 = BitVec.ofNat 8 (v.toNat / 2 + 128 * b.toNat) := by
  revert v b
  decide

/-- The sign bit that SRA keeps is bit 7. -/
theorem and_0x80 (v : Byte) : v &&& 0x80 = bitByte (v.getLsbD 7) <<< 7 := by
  revert v
  decide

/-- SWAP exchanges the digits. -/
theorem swap_digits (v : Byte) : (v <<< 4 &&& 0xF0) ||| v >>> 4 = BitVec.ofNat 8 (v.toNat % 16 * 16 + v.toNat / 16) := by
  revert v
  decide

/-- A rotate or shift in numbers: the byte and the carry out for each value and carry in. -/
theorem rot_eq_rotated (k : RotKind) (v : Byte) (cin : Bool) :
    rot k v cin =
      (BitVec.ofNat 8 (Safety.rotated k v.toNat cin.toNat).1, (Safety.rotated k v.toNat cin.toNat).2 == 1) := by
  have hnone (x : Byte) : x ||| bitByte false = x := BitVec.or_zero
  have hnone7 (x : Byte) : x ||| bitByte false <<< 7 = x := BitVec.or_zero
  cases k <;> simp only [rot, Safety.rotated, ← toNat_bit7, ← toNat_bit0, toNat_beq_one, ← shl_or_bitByte,
    ← shr_or_bitByte]
  case sla => rw [← hnone (v <<< 1), shl_or_bitByte]; rfl
  case sra => exact congrArg (v >>> 1 ||| ·, v.getLsbD 0) (and_0x80 v)
  case swap => rw [swap_digits]; rfl
  case srl => rw [← hnone7 (v >>> 1), shr_or_bitByte]; rfl

/-- A rotate of a register: the flags, then the register (R313). -/
theorem flagged_modifyReg_rotate (k : RotKind) (r : Reg8) (s : State) :
    let out := rot k (s.reg r) s.flagC
    Safety.flagged (s.setReg r out.1) (out.1 == 0) false false out.2 (modifyReg (rotate k) r s) :=
  flagged_setFlags_setReg s r _ (some _) (some false) (some false) (some _)

/-- The flags of a rotate (R313, D40). -/
theorem flagsAre_rotate (k : RotKind) (v : Byte) (s : State) :
    let out := rot k v s.flagC
    Safety.flagsAre (out.1 == 0) false false out.2 s (rotate k v s).2 :=
  flagsAre_setFlags s (some _) (some false) (some false) (some _)

/-! ### The bit an index names (R147, R314, D4) -/

/-- The mask is one bit, counted from the most significant. -/
theorem bitMask_eq_twoPow (n : BitVec 3) : bitMask n = BitVec.twoPow 8 (7 - n.toNat) := rfl

/-- The mask in the terms of the statements. -/
theorem indexMask_eq_bitMask (n : BitVec 3) : Safety.indexMask n = bitMask n := by
  revert n
  decide

/-- A byte under the mask of one bit is zero where that bit is clear. -/
theorem and_twoPow_beq_zero (v : Byte) {k : Nat} (hk : k < 8) : (v &&& BitVec.twoPow 8 k == 0) = !v.getLsbD k := by
  have hne : BitVec.twoPow 8 k ≠ 0 := fun h => by
    simpa [BitVec.getLsbD_twoPow, hk] using congrArg (BitVec.getLsbD · k) h
  rw [BitVec.and_twoPow]
  cases v.getLsbD k
  · rfl
  · simpa using hne

/-- Bit `n` from the most significant is bit `7 - n` from the least. -/
theorem getMsbD_index (v : Byte) (n : BitVec 3) : v.getMsbD n.toNat = v.getLsbD (7 - n.toNat) := by
  have hn : n.toNat < 8 := n.isLt
  simp [BitVec.getMsbD_eq_getLsbD, hn]

/-- The mask finds a byte's bit of that index clear where it is clear (R306). -/
theorem and_bitMask_beq_zero (v : Byte) (n : BitVec 3) : (v &&& bitMask n == 0) = !v.getMsbD n.toNat := by
  rw [getMsbD_index, bitMask_eq_twoPow]
  exact and_twoPow_beq_zero v (by omega)

/-- A cleared bit is found clear (R308). -/
theorem getMsbD_clearBit (v : Byte) (n : BitVec 3) : (v &&& ~~~bitMask n).getMsbD n.toNat = false := by
  rw [getMsbD_index, BitVec.getLsbD_and, BitVec.getLsbD_not, bitMask_eq_twoPow, BitVec.getLsbD_twoPow]
  simp

/-- A bit that is set is found set (R310). -/
theorem getMsbD_setBit (v : Byte) (n : BitVec 3) : (v ||| bitMask n).getMsbD n.toNat = true := by
  have hn : 7 - n.toNat < 8 := by omega
  rw [getMsbD_index, BitVec.getLsbD_or, bitMask_eq_twoPow, BitVec.getLsbD_twoPow]
  simp [hn]

/-- The flags of BIT, C kept (R306, D40). -/
theorem flagsAre_testBit (n : BitVec 3) (v : Byte) (s : State) :
    Safety.flagsAre (!v.getMsbD n.toNat) false true s.flagC s (testBit n v s) := by
  rw [← and_bitMask_beq_zero]
  exact flagsAre_setFlags s (some _) (some false) (some true) none

/-- BIT after a write of the register tests the byte written. -/
theorem exec_bitReg_setReg (n : BitVec 3) (r : Reg8) (v : Byte) (s : State) :
    ∃ u, exec (.bitReg n r) (s.setReg r v) = .next u ∧ u.flagZ = !v.getMsbD n.toNat := by
  refine ⟨testBit n v (s.setReg r v), ?_, (flagsAre_testBit n v _).1⟩
  rw [exec_bitReg, fromReg, State.reg_setReg, if_pos rfl]

/-! ### The rows -/

section
variable (k : RotKind) (n : BitVec 3) (r : Reg8)

theorem rowIs_rotReg : Safety.rowIs (.rotReg k r) [0xCB, 8 * Safety.rotCode k + Safety.regCode r] 8 none := by
  refine rowIs_of_encode ?_ ?_
  all_goals cases k <;> cases r <;> rfl

theorem rowIs_rotAtHl : Safety.rowIs (.rotAtHl k) [0xCB, 8 * Safety.rotCode k + 6] 16 none := by
  refine rowIs_of_encode ?_ ?_
  all_goals cases k <;> rfl

theorem rowIs_bitReg :
    Safety.rowIs (.bitReg n r) [0xCB, 0x40 + 8 * n.zeroExtend 8 + Safety.regCode r] 8 none := by
  refine rowIs_of_encode ?_ ?_
  all_goals rcases index_cases n with rfl | rfl | rfl | rfl | rfl | rfl | rfl | rfl <;> cases r <;> rfl

theorem rowIs_bitAtHl : Safety.rowIs (.bitAtHl n) [0xCB, 0x46 + 8 * n.zeroExtend 8] 12 none := by
  refine rowIs_of_encode ?_ ?_
  all_goals rcases index_cases n with rfl | rfl | rfl | rfl | rfl | rfl | rfl | rfl <;> rfl

theorem rowIs_resReg :
    Safety.rowIs (.resReg n r) [0xCB, 0x80 + 8 * n.zeroExtend 8 + Safety.regCode r] 8 none := by
  refine rowIs_of_encode ?_ ?_
  all_goals rcases index_cases n with rfl | rfl | rfl | rfl | rfl | rfl | rfl | rfl <;> cases r <;> rfl

theorem rowIs_resAtHl : Safety.rowIs (.resAtHl n) [0xCB, 0x86 + 8 * n.zeroExtend 8] 16 none := by
  refine rowIs_of_encode ?_ ?_
  all_goals rcases index_cases n with rfl | rfl | rfl | rfl | rfl | rfl | rfl | rfl <;> rfl

theorem rowIs_setReg :
    Safety.rowIs (.setReg n r) [0xCB, 0xC0 + 8 * n.zeroExtend 8 + Safety.regCode r] 8 none := by
  refine rowIs_of_encode ?_ ?_
  all_goals rcases index_cases n with rfl | rfl | rfl | rfl | rfl | rfl | rfl | rfl <;> cases r <;> rfl

theorem rowIs_setAtHl : Safety.rowIs (.setAtHl n) [0xCB, 0xC6 + 8 * n.zeroExtend 8] 16 none := by
  refine rowIs_of_encode ?_ ?_
  all_goals rcases index_cases n with rfl | rfl | rfl | rfl | rfl | rfl | rfl | rfl <;> rfl

end

/-! ### The statements -/

/-- Settles O49: the rotate of each form is `Rot` in numbers, and its flags come before the write of the result. -/
theorem rotatesAndShifts : Obligations.RotatesAndShifts := by
  intro s k
  refine ⟨fun r => ⟨rowIs_rotReg k r, ?reg⟩, rowIs_rotAtHl k,
    modifiesAtHl_of_modifyAtHl (exec_rotAtHl k s) (fun v => ?result) (fun _ => rfl) fun v => ?flags⟩
  case reg =>
    have h := flagged_modifyReg_rotate k r s
    rwa [rot_eq_rotated, ← exec_rotReg] at h
  case result => exact congrArg Prod.fst (rot_eq_rotated k v s.flagC)
  case flags =>
    have h := flagsAre_rotate k v s
    rwa [rot_eq_rotated] at h

/-- Settles O50: both forms test the bit the mask names and write the flags alone. -/
theorem testBitHolds : Obligations.TestBit := fun s n =>
  ⟨fun r => ⟨rowIs_bitReg n r, testBit n (s.reg r) s, exec_bitReg n r s, rfl, flagsAre_testBit n (s.reg r) s⟩,
    rowIs_bitAtHl n, loadsAt_of_fromMem (exec_bitAtHl n s) fun v => ⟨_, rfl, rfl, flagsAre_testBit n v s⟩⟩

/-- Settles O51: each form writes the byte with its bit cleared or set and nothing else, and BIT then tests that byte. -/
theorem resetAndSetBit : Obligations.ResetAndSetBit := by
  intro s n
  simp only [indexMask_eq_bitMask]
  refine ⟨fun r => ⟨rowIs_resReg n r, rowIs_setReg n r, ?cleared, ?set⟩,
    ⟨rowIs_resAtHl n, modifiesAtHl_of_modifyAtHl (exec_resAtHl n s) (fun _ => rfl) (fun _ => rfl) fun _ => rfl⟩,
    rowIs_setAtHl n, modifiesAtHl_of_modifyAtHl (exec_setAtHl n s) (fun _ => rfl) (fun _ => rfl) fun _ => rfl⟩
  case cleared =>
    obtain ⟨u, hu, hz⟩ := exec_bitReg_setReg n r (s.reg r &&& ~~~bitMask n) s
    exact ⟨_, u, exec_resReg n r s, rfl, hu, by rw [hz, getMsbD_clearBit]; rfl⟩
  case set =>
    obtain ⟨u, hu, hz⟩ := exec_bitReg_setReg n r (s.reg r ||| bitMask n) s
    exact ⟨_, u, exec_setReg n r s, rfl, hu, by rw [hz, getMsbD_setBit]; rfl⟩

end Sys2Proof.Machine
end

section
/-! The system instructions (R320 to R325): which bytes the base map leaves unassigned, and the step of HALT, STOP and of an
unassigned byte. -/

namespace Sys2Proof.Machine

open Sys2Proof

/-! ### The ill-formed instructions (R98, R325) -/

/-- The encoding of an unassigned row is its byte (R98, R103). -/
theorem encode_of_mem_unassignedRows {op : Byte} {i : Instr} (h : (op, i) ∈ Safety.unassignedRows) : encode i = [op] :=
  encode_of_listed (.unassigned (baseEntry_of_mem_unassignedRows h))

/-- The base map leaves only the bytes of the eleven rows unassigned (R98). -/
theorem mem_unassignedRows_of_baseEntry {op : Byte} {i : Instr} (h : baseEntry op = .unassigned i) :
    (op, i) ∈ Safety.unassignedRows := by
  have hescape : op ≠ 0xCB := by
    rintro rfl
    cases h
  have hrow : ¬ ∀ j, (op, j) ∉ Safety.unassignedRows := fun hnone => by
    have hassigned := (implBase_iff op).mpr ⟨hescape, hnone⟩
    simp [implBase, h] at hassigned
  obtain ⟨j, hj⟩ := not_forall_not.mp hrow
  cases (baseEntry_of_mem_unassignedRows hj).symm.trans h
  exact hj

/-- An instruction whose first byte is not the escape byte is well-formed where the base set holds the byte (R100). -/
theorem wellFormed_of_encode_cons {i : Instr} {op : Byte} {tail : List Byte} (h : encode i = op :: tail)
    (hop : op ≠ 0xCB) : i.wellFormed = implBase op := by
  rw [Instr.wellFormed, Instr.wellFormedIn, h]
  exact if_neg hop

/-- The tables list every instruction, and what they list is well-formed but for the unassigned rows (R98, R100). -/
theorem wellFormed_eq_false_iff (i : Instr) : i.wellFormed = false ↔ ∃ op, (op, i) ∈ Safety.unassignedRows := by
  constructor
  · intro hill
    have hl := listed_encode i
    generalize hbytes : encode i = bytes at hl
    have hassigned {op : Byte} {tail : List Byte} (hb : encode i = op :: tail) (hin : implBase op = true) :
        ∃ op, (op, i) ∈ Safety.unassignedRows := by
      have hwell := wellFormed_of_encode_cons hb ((implBase_iff op).mp hin).1
      rw [hill, hin] at hwell
      cases hwell
    cases hl with
    | plain he => exact hassigned hbytes (by simp [implBase, he])
    | imm8 he => exact hassigned hbytes (by simp [implBase, he])
    | imm16 he => exact hassigned hbytes (by simp [implBase, he])
    | cb op2 => simp [Instr.wellFormed, Instr.wellFormedIn, hbytes, implSets, implCb] at hill
    | unassigned he => exact ⟨_, mem_unassignedRows_of_baseEntry he⟩
  · rintro ⟨op, hrow⟩
    have hout : ¬ implBase op = true := fun hin => ((implBase_iff op).mp hin).2 i hrow
    have hescape : op ≠ 0xCB := by
      rintro rfl
      cases baseEntry_of_mem_unassignedRows hrow
    rw [wellFormed_of_encode_cons (encode_of_mem_unassignedRows hrow) hescape]
    exact Bool.eq_false_of_not_eq_true hout

/-- Settles O7: the base map names the ill-formed rows, each raises in its effect, and its step is the fetch of its one byte
and that raise. -/
theorem unassignedBytesStop : Obligations.UnassignedBytesStop := by
  refine ⟨wellFormed_eq_false_iff,
    fun op i hrow => ⟨encode_of_mem_unassignedRows hrow, exec_of_mem_unassignedRows hrow⟩, fun op i s hrow hf hh hop => ?_⟩
  have hdecode := decode_of_listed_alone (.unassigned (baseEntry_of_mem_unassignedRows hrow))
  have hpc : s.pc + 1 - 1 = s.pc := BitVec.add_sub_cancel s.pc 1
  rw [stepRunsDecodedInstruction s i [op] hf hh ⟨hop, trivial⟩ hdecode, exec_of_mem_unassignedRows hrow]
  change notImplemented op { s with pc := s.pc + 1 } = _
  rw [notImplemented, raise_outcome]
  dsimp only
  rw [hpc]

/-! ### HALT and STOP (R320, R321) -/

/-- Once `halted` is set no step exists (R121). -/
theorem step_of_halted {s : State} (hf : s.fault = none) (hh : s.halted = true) : step s = .fault .noStepHalted := by
  simp [step, runStep, hf, hh]

/-- The step of an instruction that costs 4 and sets `halted` alone is the last one (R18, D22). -/
theorem step_of_halting {s : State} {bytes : List Byte} {i : Instr} (hd : decode bytes = .ok (i, []))
    (hcost : cost i = ⟨4, none⟩) (hexec : ∀ u, exec i u = .next { u with halted := true }) (hf : s.fault = none)
    (hh : s.halted = false) (hbytes : Safety.bytesAt s s.pc bytes) :
    ∃ t, step s = .next t ∧ t.halted = true ∧ t.pc = s.pc + BitVec.ofNat 16 bytes.length ∧ t.mClock = s.mClock + 4 ∧
      t.tClock = s.tClock + 1 ∧ t.gpu = (s.gpu.advance 1).check s.mem ∧ step t = .fault .noStepHalted := by
  have hstep := stepRunsDecodedInstruction s i bytes hf hh hbytes hd
  simp only [hexec, hcost, Option.getD_none, ite_self] at hstep
  exact ⟨_, hstep, rfl, rfl, rfl, rfl, rfl, step_of_halted hf rfl⟩

/-- Settles O52: both rows cost 4 and set `halted` alone, whatever the second byte of STOP is. -/
theorem haltAndStopLeaveMachineStuck : Obligations.HaltAndStopLeaveMachineStuck := by
  refine ⟨⟨rowIs_of_encode rfl rfl, fun n => rowIs_of_encode rfl rfl⟩, fun s => ⟨rfl, fun n => rfl⟩,
    fun s bytes hrow hf hh hbytes => ?_⟩
  rcases hrow with rfl | ⟨n, rfl⟩
  · exact step_of_halting (i := .halt) (decode_of_listed_alone (.plain rfl)) rfl (fun _ => rfl) hf hh hbytes
  · exact step_of_halting (i := .stop n) (decode_of_listed_alone (.imm8 rfl n)) rfl (fun _ => rfl) hf hh hbytes

/-! ### DI and EI (R322, R323) -/

/-- Settles O53: each effect is the write of IME. -/
theorem interruptEnableBit : Obligations.InterruptEnableBit :=
  ⟨rowIs_of_encode rfl rfl, rowIs_of_encode rfl rfl, fun _ => ⟨rfl, rfl⟩⟩

end Sys2Proof.Machine
end

section
/-! The GPU (R336 to R349): the register window under the default and any other `GPU_REGS`, the check by the mode at entry, runs
of one-unit advances, and the cells of a rendered frame. -/

namespace Sys2Proof.Machine

open Sys2Proof

/-! ### The register window (R340) -/

/-- Outside the window another `GPU_REGS` changes no access: the other settings are the spec's. -/
theorem bus_outside_window {addr : Word} (h : ¬ Safety.inGpuWindow addr) (regs : GpuRegs) (s : State) (v : Byte) :
    memRead s addr (Safety.withGpuRegs regs) = memRead s addr ∧
      memWrite s addr v (Safety.withGpuRegs regs) = memWrite s addr v := by
  unfold memRead memWrite
  rw [busDecode_outside h (Safety.withGpuRegs regs) settings]
  exact ⟨rfl, rfl⟩

/-- LD A,(nn) under any settings, where the read answers. -/
theorem execIn_ldAAtImm16_of_ok {cfg : Settings} {s : State} {addr : Word} {v : Byte} (h : memRead s addr cfg = .ok v) :
    execIn cfg (.ldAAtImm16 addr) s = .next { s with a := v } := by
  change fromMem (loadInto .a) addr s cfg = _
  rw [fromMem, readByte_of_ok h]
  rfl

/-- LD (nn),A under any settings, where the write answers. -/
theorem execIn_ldAtImm16A_of_ok {cfg : Settings} {s t : State} {addr : Word} (h : memWrite s addr s.a cfg = .ok t) :
    execIn cfg (.ldAtImm16A addr) s = .next t := by
  change storeMem addr s.a s cfg = _
  rw [storeMem, writeByte_of_ok h]
  rfl

/-- The addresses of the window that the default `GPU_REGS` leaves out answer no access (R72, R372 (c)). -/
theorem writeFaults_of_unlisted_range {addr : Word}
    (h : addr = 0xFF45 ∨ addr = 0xFF46 ∨ (0xFF48 ≤ addr.toNat ∧ addr.toNat ≤ 0xFF4F) ∨
      (0xFF51 ≤ addr.toNat ∧ addr.toNat ≤ 0xFF7F)) : Safety.writeFaults addr = true := by
  rw [writeFaults_iff]
  rcases h with rfl | rfl | h | h
  · decide
  · decide
  · omega
  · omega

/-- Settles O20: the register that `GPU_REGS` lists at the address answers, or nothing does. -/
theorem gpuRegisterWindow : Obligations.GpuRegisterWindow := by
  refine ⟨fun s => ?reads, fun s v => ?writes, ?reset, fun s v addr h => ?unlisted, fun regs s v addr => ?otherRegs⟩
  case reads | reset =>
    exact ⟨memRead_gpuReg (r := .lcdc) rfl, memRead_gpuReg (r := .stat) rfl, memRead_gpuReg (r := .scy) rfl,
      memRead_gpuReg (r := .scx) rfl, memRead_gpuReg (r := .ly) rfl, memRead_gpuReg (r := .bgp) rfl⟩
  case writes =>
    exact ⟨memWrite_gpuReg (r := .lcdc) rfl, memWrite_gpuReg (r := .stat) rfl, memWrite_gpuReg (r := .scy) rfl,
      memWrite_gpuReg (r := .scx) rfl, memWrite_gpuReg (r := .ly) rfl, memWrite_gpuReg (r := .bgp) rfl⟩
  case unlisted =>
    have hwrite := writeFaults_of_unlisted_range h
    exact ⟨memRead_error_of ((readFaults_iff addr).mpr (.inl hwrite)), memWrite_error_of hwrite⟩
  case otherRegs =>
    refine ⟨fun r hwindow hr => ?_, fun hwindow hr => bus_window_unlisted hwindow hr v,
      fun houtside => bus_outside_window houtside regs s v⟩
    obtain ⟨hread, hwrite⟩ := bus_window_listed (cfg := Safety.withGpuRegs regs) (s := s) hwindow hr v
    obtain ⟨-, hwriteA⟩ := bus_window_listed (cfg := Safety.withGpuRegs regs) (s := s) hwindow hr s.a
    exact ⟨hread, hwrite, execIn_ldAAtImm16_of_ok hread, execIn_ldAtImm16A_of_ok hwriteA⟩

/-! ### The check by the mode at entry (R337, R338) -/

section
variable {g : Gpu} (mem : Memory)

theorem Gpu.check_of_oamScan (h : g.mode = .oamScan) :
    g.check mem = if g.modeClock ≥ 80 then { g with modeClock := 0, mode := .vramRead } else g := by
  simp only [Gpu.check, h, GpuMode.budget]

theorem Gpu.check_of_vramRead (h : g.mode = .vramRead) :
    g.check mem = if g.modeClock ≥ 172 then { g with modeClock := 0, mode := .hBlank } else g := by
  simp only [Gpu.check, h, GpuMode.budget]

theorem Gpu.check_of_hBlank (h : g.mode = .hBlank) :
    g.check mem =
      if g.modeClock ≥ 204 then
        if g.line + 1 = 143 then Gpu.renderFrame mem { g with modeClock := 0, line := 143, mode := .vBlank }
        else { g with modeClock := 0, line := g.line + 1, mode := .oamScan }
      else g := by
  simp only [Gpu.check, h, GpuMode.budget]
  refine if_congr Iff.rfl (if_ctx_congr Iff.rfl (fun hline => ?_) fun _ => rfl) rfl
  rw [hline]

theorem Gpu.check_of_vBlank (h : g.mode = .vBlank) :
    g.check mem =
      if g.modeClock ≥ 456 then
        if g.line + 1 > 153 then { g with modeClock := 0, line := 0, mode := .oamScan }
        else { g with modeClock := 0, line := g.line + 1 }
      else g := by
  simp only [Gpu.check, h, GpuMode.budget]

end

/-- Settles O57: the advance is the addition, and the check has one transition for each mode. -/
theorem gpuModeTransitions : Obligations.GpuModeTransitions := fun mem _ _ =>
  ⟨rfl, Gpu.check_of_oamScan mem, Gpu.check_of_vramRead mem, Gpu.check_of_hBlank mem, Gpu.check_of_vBlank mem⟩

/-! ### Runs of one-unit advances (R339 (b)) -/

/-- Units add up. -/
theorem gpuUnits_add (mem : Memory) (m n : Nat) (g : Gpu) :
    Safety.gpuUnits mem (m + n) g = Safety.gpuUnits mem n (Safety.gpuUnits mem m g) := by
  induction m generalizing g with
  | zero => rw [Nat.zero_add]; rfl
  | succ m ih => rw [Nat.succ_add]; exact ih _

/-- Below the budget of the mode a check does nothing. -/
theorem Gpu.check_of_lt {mem : Memory} {g : Gpu} (h : g.modeClock < g.mode.budget) : g.check mem = g :=
  if_neg (Nat.not_le.mpr h)

/-- Units that stay below the budget of the mode only add to its clock. -/
theorem gpuUnits_of_lt (mem : Memory) {n : Nat} {g : Gpu} (h : g.modeClock + n < g.mode.budget) :
    Safety.gpuUnits mem n g = g.advance n := by
  induction n generalizing g with
  | zero => rfl
  | succ n ih =>
    have hfirst : (g.advance 1).check mem = g.advance 1 :=
      Gpu.check_of_lt (by rw [Gpu.advance_modeClock, Gpu.advance_mode]; omega)
    rw [Safety.gpuUnits, hfirst, ih (by rw [Gpu.advance_modeClock, Gpu.advance_mode]; omega)]
    simp only [Gpu.advance, Nat.add_assoc, Nat.add_comm 1 n]

/-- From the start of a mode the last unit of its budget brings the one check that makes the transition (R338). -/
theorem gpuUnits_budget (mem : Memory) {n : Nat} {g : Gpu} (hclock : g.modeClock = 0) (hn : g.mode.budget = n + 1) :
    Safety.gpuUnits mem (n + 1) g = ({ g with modeClock := n + 1 } : Gpu).check mem := by
  have hlast : (g.advance n).advance 1 = { g with modeClock := n + 1 } := by
    simp only [Gpu.advance, hclock, Nat.zero_add]
  rw [gpuUnits_add mem n 1, gpuUnits_of_lt mem (n := n) (by omega), ← hlast]
  rfl

section
variable {g : Gpu} (mem : Memory)

/-- 80 units of OAMScan. -/
theorem gpuUnits_oamScan (hclock : g.modeClock = 0) (h : g.mode = .oamScan) :
    Safety.gpuUnits mem 80 g = { g with modeClock := 0, mode := .vramRead } := by
  rw [gpuUnits_budget mem (n := 79) hclock (by rw [h]; rfl), Gpu.check_of_oamScan mem (g := { g with modeClock := 80 }) h]
  exact if_pos (Nat.le_refl 80)

/-- 172 units of VramRead. -/
theorem gpuUnits_vramRead (hclock : g.modeClock = 0) (h : g.mode = .vramRead) :
    Safety.gpuUnits mem 172 g = { g with modeClock := 0, mode := .hBlank } := by
  rw [gpuUnits_budget mem (n := 171) hclock (by rw [h]; rfl), Gpu.check_of_vramRead mem (g := { g with modeClock := 172 }) h]
  exact if_pos (Nat.le_refl 172)

/-- 204 units of HBlank. -/
theorem gpuUnits_hBlank (hclock : g.modeClock = 0) (h : g.mode = .hBlank) :
    Safety.gpuUnits mem 204 g =
      if g.line = 142 then Gpu.renderFrame mem { g with modeClock := 0, line := 143, mode := .vBlank }
      else { g with modeClock := 0, line := g.line + 1, mode := .oamScan } := by
  rw [gpuUnits_budget mem (n := 203) hclock (by rw [h]; rfl), Gpu.check_of_hBlank mem (g := { g with modeClock := 204 }) h]
  exact (if_pos (Nat.le_refl 204)).trans (if_congr (Nat.add_right_cancel_iff (n := 1) (k := 142)) rfl rfl)

/-- 456 units of VBlank. -/
theorem gpuUnits_vBlank (hclock : g.modeClock = 0) (h : g.mode = .vBlank) :
    Safety.gpuUnits mem 456 g =
      if g.line + 1 > 153 then { g with modeClock := 0, line := 0, mode := .oamScan }
      else { g with modeClock := 0, line := g.line + 1 } := by
  rw [gpuUnits_budget mem (n := 455) hclock (by rw [h]; rfl), Gpu.check_of_vBlank mem (g := { g with modeClock := 456 }) h]
  exact if_pos (Nat.le_refl 456)

/-- 252 units from the start of a line. -/
theorem gpuUnits_scan (hclock : g.modeClock = 0) (h : g.mode = .oamScan) :
    Safety.gpuUnits mem 252 g = { g with modeClock := 0, mode := .hBlank } := by
  rw [gpuUnits_add mem 80 172, gpuUnits_oamScan mem hclock h]
  exact gpuUnits_vramRead mem (g := { g with modeClock := 0, mode := .vramRead }) rfl rfl

end

/-- Settles O58: the three modes of a line one after another, and the one mode of a line of VBlank. -/
theorem scanlineTakes456Units : Obligations.ScanlineTakes456Units := by
  refine fun mem g hclock => ⟨fun h _ => ⟨?units79, ?units80, ?units252, ?line⟩, fun h hline => ?vBlankLine⟩
  case units79 => rw [gpuUnits_of_lt mem (by rw [hclock, h]; decide), Gpu.advance, hclock]
  case units80 => rw [gpuUnits_oamScan mem hclock h, hclock]
  case units252 => rw [gpuUnits_scan mem hclock h, hclock]
  case line =>
    rw [gpuUnits_add mem 252 204, gpuUnits_scan mem hclock h,
      gpuUnits_hBlank mem (g := { g with modeClock := 0, mode := .hBlank }) rfl rfl, hclock, h]
  case vBlankLine =>
    have hlast : g.line + 1 > 153 ↔ g.line = 153 := by omega
    rw [gpuUnits_vBlank mem hclock h, hclock, if_congr hlast rfl rfl]

/-! ### The cells of a frame (R346 to R349) -/

/-- A masked bit is the bit of that place. -/
theorem and_mask_ne_zero {v mask : Byte} {k : Nat} (hmask : mask = BitVec.twoPow 8 k) (hk : k < 8) :
    v &&& mask ≠ 0 ↔ v.getLsbD k = true := by
  rw [hmask, ← beq_eq_false_iff_ne, and_twoPow_beq_zero v hk, Bool.not_eq_false']

/-- Two bits make a palette index. -/
theorem toNat_ofNat_bits (high low : Bool) :
    (BitVec.ofNat 2 (2 * high.toNat + low.toNat)).toNat = 2 * high.toNat + low.toNat := by
  cases high <;> cases low <;> rfl

/-- The address of the tile map by the bit that selects it (R346). -/
theorem mapBase_eq (lcdControl : Byte) : mapBase lcdControl = if lcdControl.getLsbD 3 then 0x9C00 else 0x9800 :=
  if_congr (and_mask_ne_zero (k := 3) rfl (by decide)) rfl rfl

/-- The tile address by the bit that selects its numbering (R346). -/
theorem tileAddr_eq (lcdControl idx : Byte) :
    tileAddr lcdControl idx =
      if lcdControl.getLsbD 4 then 0x8000 + 16 * idx.toNat else ((0x9000 : Int) + 16 * idx.toInt).toNat :=
  if_congr (and_mask_ne_zero (k := 4) rfl (by decide)) rfl rfl

/-- The tile maps stand in VRAM (R346). -/
theorem vram_le_mapBase (lcdControl : Byte) : 0x8000 ≤ mapBase lcdControl := by
  unfold mapBase
  split <;> decide

/-- Tile data stands in VRAM: a signed tile number is at least -128 (R346). -/
theorem vram_le_tileAddr (lcdControl idx : Byte) : 0x8000 ≤ tileAddr lcdControl idx := by
  have hlow : -128 ≤ idx.toInt := BitVec.le_toInt idx
  unfold tileAddr
  split <;> omega

/-- An offset from a base in VRAM is an offset from the bus address. -/
theorem vramByte_sub_add (mem : Memory) {base : Nat} (h : 0x8000 ≤ base) (offset : Nat) :
    vramByte mem (base - 0x8000 + offset) = Memory.read mem (base + offset) := by
  rw [vramByte, show 0x8000 + (base - 0x8000 + offset) = base + offset by omega]

/-- Each cell of the window is the pixel of R346 to R349. -/
theorem toNat_framePixel (mem : Memory) (g : Gpu) (y x : Nat) :
    (framePixel mem g y x).toNat = Safety.renderedPixel mem g y x := by
  unfold framePixel canvasPixel Safety.renderedPixel
  simp only [toNat_ofNat_bits, Nat.add_assoc, vramByte_sub_add mem (vram_le_mapBase _),
    vramByte_sub_add mem (vram_le_tileAddr _ _), ← mapBase_eq, ← tileAddr_eq, ← toNat_getLsbD]

/-- The cell of a rendered frame at a row and a column (R347). -/
theorem getD_renderFrame (mem : Memory) (g : Gpu) {y x : Nat} (hy : y < 144) (hx : x < 160) :
    ((Gpu.renderFrame mem g).frameBuffer.getD y []).getD x 0 = framePixel mem g y x := by
  simp [Gpu.renderFrame, List.getD_eq_getElem?_getD, hy, hx]

/-- Settles O59: the shape, then each cell. -/
theorem renderedFrame : Obligations.RenderedFrame := by
  refine fun mem g => ⟨rfl, Gpu.renderFrame_shape mem g, fun y hy x hx => ?_⟩
  rw [getD_renderFrame mem g hy hx, toNat_framePixel]

end Sys2Proof.Machine
end

section
/-! Reset and launch (R403, R407, R408, R422): the reset values, and what the loads of the two images leave in memory. -/

namespace Sys2Proof.Machine

open Sys2Proof

/-! ### Reset (R403) -/

/-- A row of the frame after reset is 160 zero cells. -/
theorem row_of_mem_reset_frameBuffer {row : List (BitVec 2)} (h : row ∈ State.reset.gpu.frameBuffer) :
    row = List.replicate 160 0 := List.eq_of_mem_replicate h

/-- The frame after reset has its shape (R37). -/
theorem frameShape_reset : Safety.frameShape State.reset.gpu.frameBuffer :=
  ⟨List.length_replicate, fun _ hrow => row_of_mem_reset_frameBuffer hrow ▸ List.length_replicate⟩

/-- Settles O1: each value as `State.reset` gives it; an empty memory reads as zero. -/
theorem resetValues : Obligations.ResetValues := by
  refine ⟨⟨fun r => ?reg, rfl, rfl, rfl, rfl, rfl⟩, ⟨rfl, rfl, rfl, rfl, rfl⟩, ⟨fun _ => rfl, fun _ => rfl, rfl⟩,
    ⟨rfl, rfl, rfl, rfl, rfl, rfl, rfl, rfl, rfl⟩, frameShape_reset, fun row hrow cell hcell => ?cell⟩
  case reg => cases r <;> rfl
  case cell =>
    rw [row_of_mem_reset_frameBuffer hrow] at hcell
    exact List.eq_of_mem_replicate hcell

/-- Settles O11: the values of R403 meet each invariant. -/
theorem invAtReset : Obligations.InvAtReset where
  lowNibble := rfl
  notTaken := rfl
  clocks := rfl
  modeClock := by decide
  lineMode := by decide
  line := by decide
  frame := frameShape_reset
  mem := Memory.wf_reset.1
  bios := Memory.wf_reset.2

/-! ### The images (R407, R408) -/

/-- A read after a load: the byte of the image where it was loaded, and the old byte elsewhere. -/
theorem Memory.read_writeList (m : Memory) (a b : Nat) (bytes : List Byte) :
    Memory.read (Memory.writeList m a bytes) b =
      if a ≤ b ∧ b < a + bytes.length then bytes.getD (b - a) 0 else Memory.read m b := by
  induction bytes generalizing m a with
  | nil => exact (if_neg fun ⟨hlow, hhigh⟩ => Nat.not_lt.mpr hlow hhigh).symm
  | cons v rest ih =>
    rw [Memory.writeList, ih, Memory.read_write, List.length_cons]
    rcases Nat.lt_trichotomy b a with hlt | rfl | hgt
    · rw [if_neg (by omega), if_neg (by omega), if_neg (by omega)]
    · rw [if_neg (by omega), if_pos rfl, if_pos (by omega), Nat.sub_self]
      rfl
    · have hnext : b - a = b - (a + 1) + 1 := by omega
      have hrange : a + 1 ≤ b ∧ b < a + 1 + rest.length ↔ a ≤ b ∧ b < a + (rest.length + 1) := by omega
      rw [if_neg (show b ≠ a by omega), if_congr hrange rfl rfl, hnext]
      rfl

/-- Bytes of an image that a load takes from one place on, at the place they were taken from (R408). -/
theorem Memory.read_writeList_slice (m : Memory) (a n b : Nat) (bytes : List Byte) :
    Memory.read (Memory.writeList m a ((bytes.drop a).take n)) b =
      if a ≤ b ∧ b < a + n ∧ b < bytes.length then bytes.getD b 0 else Memory.read m b := by
  rw [Memory.read_writeList]
  have hrange : a ≤ b ∧ b < a + ((bytes.drop a).take n).length ↔ a ≤ b ∧ b < a + n ∧ b < bytes.length := by
    rw [List.length_take, List.length_drop]
    omega
  rw [if_congr hrange rfl rfl]
  refine if_ctx_congr Iff.rfl (fun h => ?_) fun _ => rfl
  obtain ⟨hlow, hhigh, hlen⟩ := h
  rw [List.getD_eq_getElem?_getD, List.getD_eq_getElem?_getD, List.getElem?_take_of_lt (by omega), List.getElem?_drop,
    Nat.add_sub_cancel' hlow]

/-- Bytes of an image that a load takes from its start (R408). -/
theorem Memory.read_writeList_prefix (m : Memory) (n b : Nat) (bytes : List Byte) :
    Memory.read (Memory.writeList m 0 (bytes.take n)) b =
      if b < n ∧ b < bytes.length then bytes.getD b 0 else Memory.read m b := by
  have h := Memory.read_writeList_slice m 0 n b bytes
  rwa [List.drop_zero, Nat.zero_add, if_congr (and_iff_right (Nat.zero_le b)) rfl rfl] at h

/-- Settles O2: each load is one or two loads of a slice, and the faults leave what was loaded before them. -/
theorem launchLoadsImages : Obligations.LaunchLoadsImages := by
  refine ⟨fun bytes s hlen => ⟨_, if_neg (Nat.not_lt.mpr hlen), rfl, fun a => ?bios⟩, fun bytes s hlen => if_pos hlen,
    fun bytes s htype => ⟨_, if_neg (not_not.mpr htype), rfl, fun a => ?rom⟩,
    fun bytes s htype => ⟨_, if_pos htype, rfl, fun a => ?rom0⟩⟩
  case bios =>
    rw [Memory.read_writeList]
    simp
  case rom =>
    have hrange : a < bytes.length ∧ a < 0x8000 ↔
        (0x4000 ≤ a ∧ a < 0x4000 + 0x4000 ∧ a < bytes.length) ∨ (a < 0x4000 ∧ a < bytes.length) := by omega
    rw [Memory.read_writeList_slice, Memory.read_writeList_prefix, if_congr hrange rfl rfl, ite_or]
  case rom0 => rw [Memory.read_writeList_prefix, if_congr and_comm rfl rfl]

end Sys2Proof.Machine
end
